-- ==== Sys2Proof/Word.lean ====
section
/-! DEFINITION. The widths every other file uses (00_scope.md R10). -/

namespace Sys2Proof

/-- A byte of the line, of a buffer, or a command's operand a. -/
abbrev Byte := BitVec 8

/-- A host register or a command word. -/
abbrev Word := BitVec 64

end Sys2Proof
end

