-- ==== Sys2Proof/Machine/Event.lean ====
section
/-! DEFINITION. The turns of OFB's agents (00_scope.md R11). -/

namespace Sys2Proof

/-- One turn of one agent. A turn is atomic (20_memory.md R94, R103). -/
inductive Event where
  /-- HOST: `MemWrite(off, width, v)`, width in bytes (20_memory.md R91, R93). -/
  | write (off width : Nat) (v : Word)
  /-- HOST: `MemRead(off, width)` (20_memory.md R91, R92). -/
  | read (off width : Nat)
  /-- SEQ: one sequencer step (00_scope.md R11). -/
  | seq
  /-- CLOCK: `Tick(d)` (10_state.md R32). -/
  | tick (d : Nat)
  /-- LINE-RX: `RxArrive(b)` (20_memory.md R101). -/
  | rxArrive (b : Byte)
  /-- LINE-FAULT: `LineFault` (45_link_and_access.md R349). -/
  | lineFault
  /-- The external reset as an environment step (70_reset_and_hazards.md R420). -/
  | reset
deriving DecidableEq, Repr, Inhabited

end Sys2Proof
end

