-- ==== Sys2Proof/Config.lean ====
section
/-! DEFINITION. What an implementation fixes: the parameters of 00_scope.md R8 and the environment's
free choice of turns. The open ones are uninterpreted constants: nothing in Lean can compute them. -/

namespace Sys2Proof

/-- The four open parameters of 00_scope.md R8, "arguments of the model" (10_state.md R31). -/
structure Params where
  crcSeed : BitVec 16
  payCap : Nat
  rxCap : Nat
  nslaves : Nat
deriving DecidableEq, Repr

/-- The constraints of 00_scope.md R8. -/
structure Params.Ok (p : Params) : Prop where
  crcSeed_ne : p.crcSeed ≠ 0
  payCap_ge : 250 ≤ p.payCap
  payCap_le : p.payCap ≤ 65528
  rxCap_ge : 257 ≤ p.rxCap
  rxCap_le : p.rxCap ≤ 65535
  nslaves_ge : 1 ≤ p.nslaves
  nslaves_le : p.nslaves ≤ 256

/-- CRC_SEED - 1: so CRC_SEED is any non-zero 16-bit value (log 1, 93_implementation_defined.md U1). -/
opaque Config.crcSeedPred : Fin 65535

/-- PAY_CAP - 250: so PAY_CAP is any of 250 to 65528 (log 1, U2). -/
opaque Config.payCapExtra : Fin 65279

/-- RX_CAP - 257: so RX_CAP is any of 257 to 65535 (log 1, U2). -/
opaque Config.rxCapExtra : Fin 65279

/-- NSLAVES - 1: so NSLAVES is any of 1 to 256 (log 1, U3). -/
opaque Config.nslavesPred : Fin 256

/-- The parameters of this instance. -/
def Config.params : Params where
  crcSeed := BitVec.ofNat 16 (Config.crcSeedPred.val + 1)
  payCap := Config.payCapExtra.val + 250
  rxCap := Config.rxCapExtra.val + 257
  nslaves := Config.nslavesPred.val + 1

/-- The turn that comes next when the agenda holds none: any agent, with any data (00_scope.md R11:
"Any agent whose step is enabled may be scheduled next"). A free value (log 2). -/
opaque Config.environment : Nat → Event

/-- INTRODUCER (00_scope.md R8). -/
def Config.introducer : Byte := 0x53#8

/-- PAD (00_scope.md R8). -/
def Config.pad : Byte := 0xFF#8

/-- BACKOFF_US (00_scope.md R8, 43_timer.md R276). -/
def Config.backoffUs : Nat := 10000

/-- REACQ_US (00_scope.md R8, 43_timer.md R276). -/
def Config.reacqUs : Nat := 5000000

/-- The bound of the premise on NOW (10_state.md R32): `NOW < 2^64 - 2^33`. -/
def Config.nowBound : Nat := 2 ^ 64 - 2 ^ 33

end Sys2Proof
end

