-- ==== Sys2Proof/Machine/State.lean ====
section
/-! DEFINITION. The state of OFB as plain data (10_state.md R30) and its reset values (R66). -/

namespace Sys2Proof.Machine

/-- The sequencer's phase PH (10_state.md R38). -/
inductive Phase where
  | idle | txWait | txShift | rxScan | rxHdr | rxBody | fbBody | idleWt
deriving DecidableEq, Repr

/-- The result codes of 60_exceptions.md R371. -/
inductive ResultCode where
  | ok | timeout | crcErr | overflow | badLen | ioErr | badState | badCmd | badArg | noFrame | pending
deriving DecidableEq, Repr

/-- One slot of the slave table (10_state.md R60). -/
structure Slot where
  addr : BitVec 7
  undef : Bool
  en : Bool
  txseq : BitVec 2
  rxseq : BitVec 2
  retry : BitVec 8
  reacq : BitVec 64
  backoff : BitVec 64
deriving DecidableEq, Repr

/-- The fly-by registers FBACC, FBCNT, FBLEN, FBMODE, FBBAD (10_state.md R45). -/
structure FlyBy where
  acc : BitVec 16
  cnt : BitVec 16
  len : BitVec 16
  mode : Bool
  bad : Bool
deriving DecidableEq, Repr

/-- The configuration registers (10_state.md R46 to R52). The first five are the source's Link
Configuration, locked while the link is open. -/
structure CfgRegs where
  lead : BitVec 8
  trail : BitVec 8
  rdTimeout : BitVec 32
  postRxDelay : BitVec 32
  idleThresh : BitVec 32
  station : BitVec 7
  listenAll : Bool
  flyBy : Bool
  crcMode : Bool
  maxRetry : BitVec 8
deriving DecidableEq, Repr

/-- The event counters (10_state.md R53). -/
structure Counters where
  crcErr : BitVec 64
  timeout : BitVec 64
  flyByErr : BitVec 64
deriving DecidableEq, Repr

/-- What HOST's last access answered (20_memory.md R91 to R93): the model's own record (log 8). -/
inductive BusReply where
  /-- No access yet. -/
  | idle
  /-- A read answered this value. -/
  | data (v : Word)
  /-- A write returned normally. -/
  | done
  /-- A bus error. -/
  | error
deriving DecidableEq, Repr

/-- The state (10_state.md R30). `txpay`, `txbuf` and `rxbuf` hold the bytes that are valid, so that
TXPAYLEN, TXLEN and RXCNT are their lengths (log 6). The last four fields and `par` are the model's
own (logs 1, 2, 8); `txline` is the trace of R63. -/
structure State where
  par : Params
  now : BitVec 64
  acc : BitVec 16
  mode : Bool
  txpay : List Byte
  txbuf : List Byte
  txvalid : Bool
  txpos : Nat
  rxfifo : List Byte
  rxbuf : List Byte
  rxlen : BitVec 16
  rxaddr : BitVec 8
  rxctrl : BitVec 8
  rxflen : BitVec 16
  rxvalid : Bool
  fb : FlyBy
  rxts : BitVec 64
  dl : BitVec 64
  t0 : BitVec 64
  disc : BitVec 64
  ph : Phase
  busy : Bool
  linkOpen : Bool
  res : ResultCode
  result : Word
  lastcmd : Word
  cmdovr : Bool
  wrerr : Bool
  linkerr : Bool
  cfg : CfgRegs
  cnt : Counters
  slaves : List Slot
  txline : List Byte
  bus : BusReply
  agenda : List Event
  turn : Nat
deriving DecidableEq, Repr

/-- Why the machine stops with a fault. Neither is a behaviour of OFB, and both are safe: the model
stops where the hardware's behaviour lies outside the spec. -/
inductive Fault where
  /-- Raised by CLOCK's `Tick(d)` when it would leave the premise `NOW < 2^64 - 2^33` of 10_state.md
  R32, beyond which "behaviour beyond is outside the model" (93_implementation_defined.md U27). Safe
  (log 5). -/
  | timeBeyondPremise
  /-- Raised by SEQ's RXHDR step when the five header bytes do not begin with the introducer: only in a
  state no run reaches, since RXSCAN stores nothing else at RXBUF[0] (42_frame_decode.md R231). Safe
  (log 10). -/
  | headerWithoutIntroducer
deriving DecidableEq, Repr

/-- Why an instruction is refused. -/
inductive Refusal where
  /-- Raised by `exec`'s arm of an instruction that has no meaning yet. Safe. No arm raises it: every
  row of the table has its meaning. -/
  | notModelled (mnemonic : String)
deriving DecidableEq, Repr

/-- A slot at reset (10_state.md R60, R66). -/
def Slot.reset : Slot where
  addr := 0#7
  undef := true
  en := false
  txseq := 0#2
  rxseq := 0#2
  retry := 255#8
  reacq := 0#64
  backoff := 0#64

/-- The configuration at reset (10_state.md R66): CFG_CTL reads 0x280. -/
def CfgRegs.reset : CfgRegs where
  lead := 0#8
  trail := 0#8
  rdTimeout := 0#32
  postRxDelay := 0#32
  idleThresh := 0#32
  station := 0#7
  listenAll := true
  flyBy := false
  crcMode := true
  maxRetry := 0#8

/-- The table of 10_state.md R66 for an instance with parameters p. The model's own fields start empty
(logs 2, 8). -/
def State.resetFor (p : Params) : State where
  par := p
  now := 0#64
  acc := 0#16
  mode := false
  txpay := []
  txbuf := []
  txvalid := false
  txpos := 0
  rxfifo := []
  rxbuf := []
  rxlen := 0#16
  rxaddr := 0#8
  rxctrl := 0#8
  rxflen := 0#16
  rxvalid := false
  fb := ⟨0#16, 0#16, 0#16, false, false⟩
  rxts := 0#64
  dl := 0#64
  t0 := 0#64
  disc := 0#64
  ph := .idle
  busy := false
  linkOpen := false
  res := .ok
  result := 0#64
  lastcmd := 0#64
  cmdovr := false
  wrerr := false
  linkerr := false
  cfg := CfgRegs.reset
  cnt := ⟨0#64, 0#64, 0#64⟩
  slaves := List.replicate p.nslaves Slot.reset
  txline := []
  bus := .idle
  agenda := []
  turn := 0

/-- OFB right after reset (70_reset_and_hazards.md R420, R421). -/
def State.reset : State := State.resetFor Config.params

end Sys2Proof.Machine
end

