-- ==== Sys2Proof/Machine/Flags.lean ====
section
/-! DEFINITION. Every flag and packed word the spec gives: the codes of PH and RES, the register words
STATUS, RXINFO, CKSTATE and CFG_CTL, the sticky flags, and the event bits the slave commands leave in
RESULT. OFB has no condition codes (10_state.md R42). -/

namespace Sys2Proof.Machine

/-- The code of a phase (10_state.md R38). -/
def Phase.code : Phase → BitVec 4
  | .idle => 0#4
  | .txWait => 1#4
  | .txShift => 2#4
  | .rxScan => 3#4
  | .rxHdr => 4#4
  | .rxBody => 5#4
  | .fbBody => 6#4
  | .idleWt => 7#4

/-- The number of a result code (60_exceptions.md R371). -/
def ResultCode.code : ResultCode → BitVec 8
  | .ok => 0x00#8
  | .timeout => 0x01#8
  | .crcErr => 0x02#8
  | .overflow => 0x03#8
  | .badLen => 0x04#8
  | .ioErr => 0x05#8
  | .badState => 0x06#8
  | .badCmd => 0x07#8
  | .badArg => 0x08#8
  | .noFrame => 0x09#8
  | .pending => 0xFF#8

/-- STATUS as read (10_state.md R54). -/
def statusWord (s : State) : Word :=
  0#45 ++ BitVec.ofBool s.linkerr ++ BitVec.ofBool s.wrerr ++ BitVec.ofBool s.cmdovr ++ s.res.code
    ++ s.ph.code ++ BitVec.ofBool s.rxvalid ++ BitVec.ofBool s.txvalid ++ BitVec.ofBool s.linkOpen
    ++ BitVec.ofBool s.busy

/-- RXINFO as read (10_state.md R55). -/
def rxinfoWord (s : State) : Word :=
  0#16 ++ s.rxflen ++ s.rxctrl ++ s.rxaddr ++ s.rxlen

/-- CKSTATE as read (10_state.md R56). -/
def ckstateWord (s : State) : Word :=
  0#47 ++ BitVec.ofBool s.mode ++ s.acc

/-- CFG_CTL as read (10_state.md R51). -/
def cfgCtlWord (s : State) : Word :=
  0#54 ++ BitVec.ofBool s.cfg.crcMode ++ BitVec.ofBool s.cfg.flyBy ++ BitVec.ofBool s.cfg.listenAll
    ++ s.cfg.station

/-- A write of v to STATUS clears the sticky flags whose bits are 1 (10_state.md R54). -/
def clearSticky (v : Word) (s : State) : State :=
  { s with
    cmdovr := s.cmdovr && !v.getLsbD 16
    wrerr := s.wrerr && !v.getLsbD 17
    linkerr := s.linkerr && !v.getLsbD 18 }

/-- ONLINE of a slot (10_state.md R61). -/
def Slot.online (maxRetry : BitVec 8) (S : Slot) : Bool := decide (S.retry < maxRetry)

/-- RESULT of SLACK: bit 0 WENT_ONLINE, bits 9:8 TXSEQ (44_slave.md R306). -/
def ackWord (wentOnline : Bool) (txseq : BitVec 2) : Word :=
  0#54 ++ txseq ++ 0#7 ++ BitVec.ofBool wentOnline

/-- RESULT of SLNAK and SLNAKR: bit 1 WENT_OFFLINE, bit 2 BACKOFF_SET, bits 9:8 TXSEQ, bits 23:16
RETRY (44_slave.md R308, R310). -/
def nakWord (wentOffline backoffSet : Bool) (txseq : BitVec 2) (retry : BitVec 8) : Word :=
  0#40 ++ retry ++ 0#6 ++ txseq ++ 0#5 ++ BitVec.ofBool backoffSet ++ BitVec.ofBool wentOffline ++ 0#1

/-- SLRD's selector 0: ADDR, UNDEF, EN, TXSEQ, RXSEQ, ONLINE (44_slave.md R314). -/
def slotWord (maxRetry : BitVec 8) (S : Slot) : Word :=
  0#50 ++ BitVec.ofBool (S.online maxRetry) ++ S.rxseq ++ S.txseq ++ BitVec.ofBool S.en
    ++ BitVec.ofBool S.undef ++ S.addr

end Sys2Proof.Machine
end

