-- ==== Sys2Proof/Machine/Ops.lean ====
section
/-! DEFINITION. The named operations the meanings share: completing and refusing a command, the checksum
functions, the frame bytes, the receive completion, the slave transitions. -/

namespace Sys2Proof.Machine

/-! ### Completion (00_scope.md R13, 60_exceptions.md R372) -/

/-- `raise <Code>(info)`: what stands in OFB for taking an exception. The command completes with a code,
and no other state changes (60_exceptions.md R372, R382). There is nothing to return from (R383). -/
def State.raise (code : ResultCode) (info : Word) (s : State) : State :=
  { s with res := code, result := info, busy := false, ph := .idle }

/-- `done(v)`: the command completes without error (00_scope.md R13). -/
def State.done (v : Word) (s : State) : State := s.raise .ok v

/-- The end of a long command's issue (30_encoding.md R121 step 4, R127). -/
def State.issue (ph : Phase) (s : State) : State :=
  { s with busy := true, res := .pending, result := 0#64, ph := ph }

/-- `BADARG`, `BADSTATE`, `NOFRAME` record 0 and have no other effect (60_exceptions.md R371). -/
def State.refuse (code : ResultCode) (s : State) : State := s.raise code 0#64

/-- A line command needs the link open, else BADSTATE (30_encoding.md R121 step 3, 60_exceptions.md
R376). -/
def whenOpen (s : State) (k : State → State) : State :=
  if s.linkOpen then k s else s.refuse .badState

/-! ### The checksum functions (40_checksum.md R161 to R167) -/

/-- `ck_init(m)` (40_checksum.md R161). -/
def ckInit (seed : BitVec 16) (m : Bool) : BitVec 16 := if m then seed else 0#16

/-- `crc_step(acc, b)`, the source's formula (40_checksum.md R162). -/
def crcStep (acc : BitVec 16) (b : Byte) : BitVec 16 :=
  let x := acc.extractLsb' 8 8 ^^^ b
  let y := (x ^^^ (x >>> 4)).setWidth 16
  (acc <<< 8) ^^^ (y <<< 12) ^^^ (y <<< 5) ^^^ y

/-- `sum_step(acc, b) = (acc + b) mod 256` (40_checksum.md R163). -/
def sumStep (acc : BitVec 16) (b : Byte) : BitVec 16 :=
  BitVec.ofNat 16 ((acc.toNat + b.toNat) % 256)

/-- `ck_step(m, acc, b)` (40_checksum.md R164). -/
def ckStep (m : Bool) (acc : BitVec 16) (b : Byte) : BitVec 16 :=
  if m then crcStep acc b else sumStep acc b

/-- `ck_range(m, s)` (40_checksum.md R165); finalization is the identity. -/
def ckRange (seed : BitVec 16) (m : Bool) (bytes : List Byte) : BitVec 16 :=
  bytes.foldl (ckStep m) (ckInit seed m)

/-- `ck_bytes(m, v)`, low byte first (40_checksum.md R166, 20_memory.md R95). -/
def ckBytes (m : Bool) (v : BitVec 16) : List Byte :=
  if m then [v.extractLsb' 0 8, v.extractLsb' 8 8] else [v.extractLsb' 0 8]

/-- `ck_size(m)` (40_checksum.md R166). -/
def ckSize (m : Bool) : Nat := if m then 2 else 1

/-- `ck_verify(m, s, t)`: recompute and compare byte for byte (40_checksum.md R167). -/
def ckVerify (seed : BitVec 16) (m : Bool) (bytes trailer : List Byte) : Bool :=
  ckBytes m (ckRange seed m bytes) == trailer

/-! ### The frame bytes (41_frame_encode.md R193) -/

/-- The five header bytes of `frame(a8, q, m, p)` for a payload of n bytes. -/
def frameHeader (a8 : Byte) (q : BitVec 2) (m : Bool) (n : Nat) : List Byte :=
  let len := BitVec.ofNat 16 (5 + n + ckSize m)
  [Config.introducer, a8 &&& 0x7F#8, len.extractLsb' 0 8, len.extractLsb' 8 8,
    q.setWidth 8 ||| (if m then 4#8 else 0#8)]

/-- `frame(a8, q, m, p)` (41_frame_encode.md R193). -/
def frameBytes (seed : BitVec 16) (a8 : Byte) (q : BitVec 2) (m : Bool) (p : List Byte) : List Byte :=
  let covered := frameHeader a8 q m p.length ++ p
  covered ++ ckBytes m (ckRange seed m covered)

/-- `txbytes(lead, trail, a8, q, m, p)`: the frame between its pads (41_frame_encode.md R193,
30_encoding.md R136). -/
def txBytes (seed : BitVec 16) (lead trail : Nat) (a8 : Byte) (q : BitVec 2) (m : Bool)
    (p : List Byte) : List Byte :=
  List.replicate lead Config.pad ++ frameBytes seed a8 q m p ++ List.replicate trail Config.pad

/-- `emit(b)` (20_memory.md R102). -/
def State.emit (b : Byte) (s : State) : State := { s with txline := s.txline ++ [b] }

/-! ### Receiving (42_frame_decode.md R241) -/

/-- The counter that a receive outcome increments, modulo 2^64 (42_frame_decode.md R241). -/
def Counters.tally (code : ResultCode) (c : Counters) : Counters :=
  match code with
  | .timeout => { c with timeout := c.timeout + 1#64 }
  | .crcErr => { c with crcErr := c.crcErr + 1#64 }
  | .ok | .overflow | .badLen | .ioErr | .badState | .badCmd | .badArg | .noFrame | .pending => c

/-- `rx_done(code, v)` (42_frame_decode.md R241). -/
def State.rxDone (code : ResultCode) (v : Word) (s : State) : State :=
  let s1 : State := { s with rxvalid := code == .ok, rxts := s.now, cnt := s.cnt.tally code }
  s1.raise code v

/-- One more fly-by failure, modulo 2^64, only while FLYBY = 1 (42_frame_decode.md R236, R238, R239). -/
def State.countFlyBy (s : State) : State :=
  if s.cfg.flyBy then { s with cnt := { s.cnt with flyByErr := s.cnt.flyByErr + 1#64 } } else s

/-- Enter fly-by with a header of mode m and length len (42_frame_decode.md R236). -/
def enterFlyBy (m : Bool) (len : BitVec 16) (header : List Byte) (s : State) : State :=
  let s1 : State := { s with fb := ⟨ckRange s.par.crcSeed m header, 5#16, len, m, false⟩ }
  if len.toNat < 5 + ckSize m then
    { s1.countFlyBy with ph := if len.toNat ≤ 5 then .rxScan else .fbBody }
  else { s1 with ph := .fbBody }

/-- Is a frame with this address byte for this station (42_frame_decode.md R233)? Bit 7 takes no part. -/
def State.addressed (address : Byte) (s : State) : Bool :=
  s.cfg.listenAll || address.extractLsb' 0 7 == s.cfg.station

/-- "evaluate the header" (42_frame_decode.md R233). -/
def evaluateHeader (m : Bool) (address : Byte) (len : BitVec 16) (ctrl : Byte) (header : List Byte)
    (s : State) : State :=
  if s.addressed address then
    let s1 : State := { s with rxaddr := address, rxctrl := ctrl, rxflen := len }
    if s.par.rxCap < len.toNat then s1.rxDone .overflow 0#64
    else if len.toNat < 5 + ckSize m then s1.rxDone .badLen 0#64
    else { s1 with ph := .rxBody }
  else enterFlyBy m len header s

/-- IDLEWAIT and RXFLUSH record the receive time when they discarded at least one byte
(42_frame_decode.md R246, R248, 43_timer.md R275). -/
def State.stampIf (discarded : Bool) (s : State) : State :=
  if discarded then { s with rxts := s.now } else s

/-! ### Time -/

/-- NOW + c in a 64-bit register (00_scope.md R12, R13); exact under the premise of 10_state.md R32. -/
def State.nowPlus (c : Nat) (s : State) : BitVec 64 := BitVec.ofNat 64 (s.now.toNat + c)

/-- Has the turnaround `TXOK = RXTS + POSTRXDELAY` been reached? The sum is unbounded (43_timer.md
R271). -/
def State.turnaroundOver (s : State) : Bool :=
  decide (s.rxts.toNat + s.cfg.postRxDelay.toNat ≤ s.now.toNat)

/-! ### The slave transitions (44_slave.md) -/

/-- `next(q)`: 0, 1, 2, 3 go to 1, 2, 3, 1 (44_slave.md R301). -/
def nextSeq (q : BitVec 2) : BitVec 2 := BitVec.ofNat 2 (q.toNat % 3 + 1)

/-- RETRY + 1, saturating at 255 (44_slave.md R311). -/
def retryUp (r : BitVec 8) : BitVec 8 := BitVec.ofNat 8 (min (r.toNat + 1) 255)

/-- The slot after `ack()` (44_slave.md R306). -/
def Slot.ack (S : Slot) : Slot := { S with txseq := nextSeq S.txseq, retry := 0#8 }

/-- Does this nak take the slot from Online to Offline (44_slave.md R308, R309)? -/
def Slot.nakCrosses (maxRetry : BitVec 8) (S : Slot) : Bool :=
  S.online maxRetry && decide (maxRetry ≤ retryUp S.retry)

/-- Does this nak leave the slot Online, and so set a backoff (44_slave.md R308)? -/
def Slot.nakBacksOff (maxRetry : BitVec 8) (S : Slot) : Bool :=
  !S.nakCrosses maxRetry && decide (retryUp S.retry < maxRetry)

/-- The slot after the body of SLNAK (44_slave.md R308), `deadline` being NOW + BACKOFF_US. -/
def Slot.nak (maxRetry : BitVec 8) (deadline : BitVec 64) (S : Slot) : Slot :=
  { S with
    retry := retryUp S.retry
    backoff := if S.nakBacksOff maxRetry then deadline else S.backoff }

/-- SLQRY's answer, in the order of its tests (44_slave.md R313). -/
def Slot.query (maxRetry : BitVec 8) (now : BitVec 64) (S : Slot) : Nat :=
  if S.undef then 0
  else if !S.en then 1
  else if !S.online maxRetry then (if now < S.reacq then 2 else 3)
  else if now < S.backoff then 4
  else 5

/-- The field SLRD selects (44_slave.md R314). -/
def Slot.field (maxRetry : BitVec 8) (sel : BitVec 2) (S : Slot) : Word :=
  match sel.toNat with
  | 0 => slotWord maxRetry S
  | 1 => S.retry.setWidth 64
  | 2 => S.reacq
  | _ => S.backoff

/-- Write slot i. -/
def State.setSlot (i : Nat) (S : Slot) (s : State) : State := { s with slaves := s.slaves.set i S }

end Sys2Proof.Machine
end

