-- ==== Sys2Proof/Machine/Operands.lean ====
section
/-! DEFINITION. The operand forms of 30_encoding.md R124: each reads a and b and answers the operands, or
`none` where a must-be-zero bit is 1 or the slot is not in the table (R121 step 2: BADARG). -/

namespace Sys2Proof.Machine

/-- No operand: a and b must be 0. -/
def Operands.empty (a : BitVec 8) (b : BitVec 16) : Option Unit :=
  if a = 0#8 ∧ b = 0#16 then some () else none

/-- CKINIT: a must be 0, b[0] is the mode, b[15:1] must be 0. -/
def Operands.mode (a : BitVec 8) (b : BitVec 16) : Option Bool :=
  if a = 0#8 ∧ b.extractLsb' 1 15 = 0#15 then some (b.getLsbD 0) else none

/-- CKFOLD, TXPPUSH: a is the byte, b must be 0. -/
def Operands.byte (a : BitVec 8) (b : BitVec 16) : Option Byte :=
  if b = 0#16 then some a else none

/-- CKVFY, RXRD: a must be 0, b is the 16-bit operand. -/
def Operands.half (a : BitVec 8) (b : BitVec 16) : Option (BitVec 16) :=
  if a = 0#8 then some b else none

/-- WRFRAME: a is the address (a[7] discarded by the encoder), b[1:0] the sequence number. -/
def Operands.frame (a : BitVec 8) (b : BitVec 16) : Option (Byte × BitVec 2) :=
  if b.extractLsb' 2 14 = 0#14 then some (a, b.extractLsb' 0 2) else none

/-- The slot a names (44_slave.md R305). The table is `slaves`, so an index of NSLAVES or more names no
slot (log 11). -/
def Operands.slot (a : BitVec 8) (s : State) : Option Slot := s.slaves[a.toNat]?

/-- SLACK, SLNAK, SLNAKR, SLTKL, SLQRY: a slot, b must be 0. -/
def Operands.slotOnly (a : BitVec 8) (b : BitVec 16) (s : State) : Option Slot :=
  if b = 0#16 then Operands.slot a s else none

/-- SLEN: a slot, b[0] is EN, b[15:1] must be 0. -/
def Operands.slotFlag (a : BitVec 8) (b : BitVec 16) (s : State) : Option (Slot × Bool) :=
  if b.extractLsb' 1 15 = 0#15 then (Operands.slot a s).map (·, b.getLsbD 0) else none

/-- SLRD, SLSRX: a slot, b[1:0] is a selector or a value, b[15:2] must be 0. -/
def Operands.slotPair (a : BitVec 8) (b : BitVec 16) (s : State) : Option (Slot × BitVec 2) :=
  if b.extractLsb' 2 14 = 0#14 then (Operands.slot a s).map (·, b.extractLsb' 0 2) else none

/-- SLCFG's new slot: b[6:0] ADDR, b[7] UNDEF, b[8] EN, b[15:9] must be 0; the rest of the slot as at
reset (44_slave.md R302). -/
def Operands.slotConfig (a : BitVec 8) (b : BitVec 16) (s : State) : Option Slot :=
  if b.extractLsb' 9 7 = 0#7 then
    (Operands.slot a s).map fun _ =>
      { Slot.reset with addr := b.extractLsb' 0 7, undef := b.getLsbD 7, en := b.getLsbD 8 }
  else none

/-- Run a command on its operands, or refuse it with BADARG (30_encoding.md R121 step 2). -/
def withOperands {α : Type} (operands : Option α) (s : State) (k : α → State) : State :=
  match operands with
  | some x => k x
  | none => s.refuse .badArg

end Sys2Proof.Machine
end

