-- ==== Sys2Proof/Machine/Checksum.lean ====
section
/-! DEFINITION. The checksum commands CKINIT, CKFOLD, CKFIN, CKVFY (40_checksum.md section 3). They touch
only ACC, MODE, RES, RESULT (R174). -/

namespace Sys2Proof.Machine

/-- CKINIT: `MODE <- m; ACC <- ck_init(m); done(ACC)` (40_checksum.md R170). -/
def execCkinit (a : BitVec 8) (b : BitVec 16) (s : State) : Host.Outcome State Fault Refusal :=
  .next <| withOperands (Operands.mode a b) s fun m =>
    let s1 : State := { s with mode := m, acc := ckInit s.par.crcSeed m }
    s1.done (s1.acc.setWidth 64)

/-- CKFOLD: `ACC <- ck_step(MODE, ACC, byte); done(ACC)` (40_checksum.md R171). -/
def execCkfold (a : BitVec 8) (b : BitVec 16) (s : State) : Host.Outcome State Fault Refusal :=
  .next <| withOperands (Operands.byte a b) s fun byte =>
    let s1 : State := { s with acc := ckStep s.mode s.acc byte }
    s1.done (s1.acc.setWidth 64)

/-- CKFIN: `done(ACC)`, finalization being the identity (40_checksum.md R172). -/
def execCkfin (a : BitVec 8) (b : BitVec 16) (s : State) : Host.Outcome State Fault Refusal :=
  .next <| withOperands (Operands.empty a b) s fun _ => s.done (s.acc.setWidth 64)

/-- CKVFY: `done(1 if ACC = e else 0)` (40_checksum.md R173). -/
def execCkvfy (a : BitVec 8) (b : BitVec 16) (s : State) : Host.Outcome State Fault Refusal :=
  .next <| withOperands (Operands.half a b) s fun e => s.done (if s.acc = e then 1#64 else 0#64)

end Sys2Proof.Machine
end

