-- ==== Sys2Proof/Syntax.lean ====
section
/-! DEFINITION. The instructions: one constructor for each row of spec/opcode_table.json. -/

namespace Sys2Proof

/-- OFB's instructions. The first 24 are the commands of 30_encoding.md R125; `a` and `b` are the two
operand fields of R123, whose use is R124. The last two are the wire headers of R139, with the
reserved address bit `r`, the address, the declared length, the reserved control bits `x` and the
sequence number. -/
inductive Instr where
  | nop (a : BitVec 8) (b : BitVec 16)
  | ckinit (a : BitVec 8) (b : BitVec 16)
  | ckfold (a : BitVec 8) (b : BitVec 16)
  | ckfin (a : BitVec 8) (b : BitVec 16)
  | ckvfy (a : BitVec 8) (b : BitVec 16)
  | txpclr (a : BitVec 8) (b : BitVec 16)
  | txppush (a : BitVec 8) (b : BitVec 16)
  | wrframe (a : BitVec 8) (b : BitVec 16)
  | resend (a : BitVec 8) (b : BitVec 16)
  | rdframe (a : BitVec 8) (b : BitVec 16)
  | rxrd (a : BitVec 8) (b : BitVec 16)
  | idlewait (a : BitVec 8) (b : BitVec 16)
  | rxflush (a : BitVec 8) (b : BitVec 16)
  | linkopen (a : BitVec 8) (b : BitVec 16)
  | linkclose (a : BitVec 8) (b : BitVec 16)
  | slcfg (a : BitVec 8) (b : BitVec 16)
  | slen (a : BitVec 8) (b : BitVec 16)
  | slack (a : BitVec 8) (b : BitVec 16)
  | slnak (a : BitVec 8) (b : BitVec 16)
  | slnakr (a : BitVec 8) (b : BitVec 16)
  | sltkl (a : BitVec 8) (b : BitVec 16)
  | slqry (a : BitVec 8) (b : BitVec 16)
  | slrd (a : BitVec 8) (b : BitVec 16)
  | slsrx (a : BitVec 8) (b : BitVec 16)
  | frameSum8 (r : BitVec 1) (addr : BitVec 7) (len : BitVec 16) (x : BitVec 5) (seq : BitVec 2)
  | frameCrc16 (r : BitVec 1) (addr : BitVec 7) (len : BitVec 16) (x : BitVec 5) (seq : BitVec 2)
deriving DecidableEq, Repr

end Sys2Proof
end

