-- ==== Sys2Proof/Decode.lean ====
section
/-! DEFINITION. Decoding and encoding, from 30_encoding.md: the command word (R123, R125) and the wire
header (R130, R139). -/

namespace Sys2Proof

/-- Why bits are no instruction. The first two are 30_encoding.md R126 (a), the last two R130. -/
inductive DecodeError where
  /-- A command word with one of bits 63:32 set. -/
  | reservedBits
  /-- A command word whose op is not in the table of R125. -/
  | unassignedOp
  /-- Header bytes that do not begin with the introducer. -/
  | noIntroducer
  /-- Not five header bytes. -/
  | notFiveBytes
deriving DecidableEq, Repr

/-- OFB's two encodings: a 64-bit command word, and the header bytes of a wire frame in wire order. -/
inductive Encoded where
  | command (w : Word)
  | header (bytes : List Byte)
deriving DecidableEq, Repr

/-- The opcode map of 30_encoding.md R125. -/
def commandOf (op : Nat) (a : BitVec 8) (b : BitVec 16) : Option Instr :=
  match op with
  | 0x00 => some (.nop a b)
  | 0x10 => some (.ckinit a b)
  | 0x11 => some (.ckfold a b)
  | 0x12 => some (.ckfin a b)
  | 0x13 => some (.ckvfy a b)
  | 0x20 => some (.txpclr a b)
  | 0x21 => some (.txppush a b)
  | 0x22 => some (.wrframe a b)
  | 0x23 => some (.resend a b)
  | 0x30 => some (.rdframe a b)
  | 0x31 => some (.rxrd a b)
  | 0x32 => some (.idlewait a b)
  | 0x33 => some (.rxflush a b)
  | 0x40 => some (.linkopen a b)
  | 0x41 => some (.linkclose a b)
  | 0x50 => some (.slcfg a b)
  | 0x51 => some (.slen a b)
  | 0x52 => some (.slack a b)
  | 0x53 => some (.slnak a b)
  | 0x54 => some (.slnakr a b)
  | 0x55 => some (.sltkl a b)
  | 0x56 => some (.slqry a b)
  | 0x57 => some (.slrd a b)
  | 0x58 => some (.slsrx a b)
  | _ => none

/-- The fields of a command word (30_encoding.md R123). -/
def wordOp (w : Word) : BitVec 8 := w.extractLsb' 0 8
/-- Operand a, bits 15:8. -/
def wordA (w : Word) : BitVec 8 := w.extractLsb' 8 8
/-- Operand b, bits 31:16. -/
def wordB (w : Word) : BitVec 16 := w.extractLsb' 16 16
/-- The reserved bits 63:32. -/
def wordZero (w : Word) : BitVec 32 := w.extractLsb' 32 32

/-- Step 1 of 30_encoding.md R121. -/
def decodeCommand (w : Word) : Except DecodeError Instr :=
  if wordZero w = 0#32 then
    match commandOf (wordOp w).toNat (wordA w) (wordB w) with
    | some i => .ok i
    | none => .error .unassignedOp
  else .error .reservedBits

/-- The header of a wire frame (30_encoding.md R130 to R133, R139): control bit 2 picks the row. -/
def decodeHeader (bytes : List Byte) : Except DecodeError Instr :=
  match bytes with
  | [intro, address, lenLo, lenHi, ctrl] =>
    if intro = 0x53#8 then
      if ctrl.getLsbD 2 then
        .ok (.frameCrc16 (address.extractLsb' 7 1) (address.extractLsb' 0 7) (lenHi ++ lenLo)
          (ctrl.extractLsb' 3 5) (ctrl.extractLsb' 0 2))
      else
        .ok (.frameSum8 (address.extractLsb' 7 1) (address.extractLsb' 0 7) (lenHi ++ lenLo)
          (ctrl.extractLsb' 3 5) (ctrl.extractLsb' 0 2))
    else .error .noIntroducer
  | _ => .error .notFiveBytes

/-- Decoding, total over both encodings. -/
def decode : Encoded → Except DecodeError Instr
  | .command w => decodeCommand w
  | .header bytes => decodeHeader bytes

/-- A command word from its fields: `op + a * 2^8 + b * 2^16` (30_encoding.md R128). -/
def commandWord (op a : BitVec 8) (b : BitVec 16) : Word := 0#32 ++ b ++ a ++ op

/-- The five header bytes in wire order (30_encoding.md R130, R139). -/
def headerBytes (m : BitVec 1) (r : BitVec 1) (addr : BitVec 7) (len : BitVec 16) (x : BitVec 5)
    (seq : BitVec 2) : List Byte :=
  [0x53#8, r ++ addr, len.extractLsb' 0 8, len.extractLsb' 8 8, x ++ m ++ seq]

/-- The encoder, from the same tables of the spec. -/
def encode : Instr → Encoded
  | .nop a b => .command (commandWord 0x00#8 a b)
  | .ckinit a b => .command (commandWord 0x10#8 a b)
  | .ckfold a b => .command (commandWord 0x11#8 a b)
  | .ckfin a b => .command (commandWord 0x12#8 a b)
  | .ckvfy a b => .command (commandWord 0x13#8 a b)
  | .txpclr a b => .command (commandWord 0x20#8 a b)
  | .txppush a b => .command (commandWord 0x21#8 a b)
  | .wrframe a b => .command (commandWord 0x22#8 a b)
  | .resend a b => .command (commandWord 0x23#8 a b)
  | .rdframe a b => .command (commandWord 0x30#8 a b)
  | .rxrd a b => .command (commandWord 0x31#8 a b)
  | .idlewait a b => .command (commandWord 0x32#8 a b)
  | .rxflush a b => .command (commandWord 0x33#8 a b)
  | .linkopen a b => .command (commandWord 0x40#8 a b)
  | .linkclose a b => .command (commandWord 0x41#8 a b)
  | .slcfg a b => .command (commandWord 0x50#8 a b)
  | .slen a b => .command (commandWord 0x51#8 a b)
  | .slack a b => .command (commandWord 0x52#8 a b)
  | .slnak a b => .command (commandWord 0x53#8 a b)
  | .slnakr a b => .command (commandWord 0x54#8 a b)
  | .sltkl a b => .command (commandWord 0x55#8 a b)
  | .slqry a b => .command (commandWord 0x56#8 a b)
  | .slrd a b => .command (commandWord 0x57#8 a b)
  | .slsrx a b => .command (commandWord 0x58#8 a b)
  | .frameSum8 r addr len x seq => .header (headerBytes 0#1 r addr len x seq)
  | .frameCrc16 r addr len x seq => .header (headerBytes 1#1 r addr len x seq)

/-- The n bytes of a number, least significant first. -/
def bytesOfNat : Nat → Nat → List Byte
  | 0, _ => []
  | n + 1, w => BitVec.ofNat 8 w :: bytesOfNat n (w / 256)

/-- A row's bits as one of the two encodings: the 40-bit rows are wire headers, first wire byte in
bits 7:0 (log 13); the others are command words, the bits above `nbits` 0. -/
def encodedOfTable (nbits w : Nat) : Encoded :=
  if nbits = 40 then .header (bytesOfNat 5 w) else .command (BitVec.ofNat 64 (w % 2 ^ nbits))

/-- The instruction the decoder reads from a row's bits, for the host's check of the table. -/
def decodeTableWord (nbits w : Nat) : Option Instr :=
  match decode (encodedOfTable nbits w) with
  | .ok i => some i
  | .error _ => none

end Sys2Proof
end

