-- ==== Sys2Proof/Machine/FrameDecode.lean ====
section
/-! DEFINITION. The decoder's commands RDFRAME, RXRD, IDLEWAIT, RXFLUSH, and the evaluation of a received
wire header (42_frame_decode.md). The sequencer's receive phases are in Sequencer.lean. -/

namespace Sys2Proof.Machine

/-- RDFRAME's issue (42_frame_decode.md R230). RXFIFO is not touched. -/
def execRdframe (a : BitVec 8) (b : BitVec 16) (s : State) : Host.Outcome State Fault Refusal :=
  .next <| withOperands (Operands.empty a b) s fun _ => whenOpen s fun s =>
    let s1 : State := { s with
      dl := s.nowPlus s.cfg.rdTimeout.toNat
      rxvalid := false
      rxbuf := []
      rxlen := 0#16
      rxaddr := 0#8
      rxctrl := 0#8
      rxflen := 0#16 }
    s1.issue .rxScan

/-- RXRD: one payload byte of the validated frame, or BADARG (42_frame_decode.md R243). -/
def execRxrd (a : BitVec 8) (b : BitVec 16) (s : State) : Host.Outcome State Fault Refusal :=
  .next <| withOperands (Operands.half a b) s fun i =>
    if s.rxvalid = false ∨ s.rxlen ≤ i then s.refuse .badArg
    else withOperands (s.rxbuf[5 + i.toNat]?) s fun byte => s.done (byte.setWidth 64)

/-- IDLEWAIT's issue (42_frame_decode.md R245). -/
def execIdlewait (a : BitVec 8) (b : BitVec 16) (s : State) : Host.Outcome State Fault Refusal :=
  .next <| withOperands (Operands.empty a b) s fun _ => whenOpen s fun s =>
    let s1 : State := { s with t0 := s.now, disc := 0#64 }
    s1.issue .idleWt

/-- RXFLUSH: empty RXFIFO and count (42_frame_decode.md R248). -/
def execRxflush (a : BitVec 8) (b : BitVec 16) (s : State) : Host.Outcome State Fault Refusal :=
  .next <| withOperands (Operands.empty a b) s fun _ => whenOpen s fun s =>
    let s1 : State := { s.stampIf (!s.rxfifo.isEmpty) with rxfifo := [] }
    s1.done (BitVec.ofNat 64 s.rxfifo.length)

/-- A received header with the 8-bit sum: its evaluation, the end of the RXHDR step that stored its
fifth byte (42_frame_decode.md R232, R233; 30_encoding.md R139; log 7). -/
def execFrameSum8 (r : BitVec 1) (addr : BitVec 7) (len : BitVec 16) (x : BitVec 5) (seq : BitVec 2)
    (s : State) : Host.Outcome State Fault Refusal :=
  .next <| evaluateHeader false (r ++ addr) len (x ++ 0#1 ++ seq) (headerBytes 0#1 r addr len x seq) s

/-- A received header with the 16-bit CRC: its evaluation (42_frame_decode.md R232, R233;
30_encoding.md R139; log 7). -/
def execFrameCrc16 (r : BitVec 1) (addr : BitVec 7) (len : BitVec 16) (x : BitVec 5) (seq : BitVec 2)
    (s : State) : Host.Outcome State Fault Refusal :=
  .next <| evaluateHeader true (r ++ addr) len (x ++ 1#1 ++ seq) (headerBytes 1#1 r addr len x seq) s

end Sys2Proof.Machine
end

