-- ==== Sys2Proof/Machine/FrameEncode.lean ====
section
/-! DEFINITION. The encoder's commands TXPCLR, TXPPUSH, WRFRAME, RESEND (41_frame_encode.md). The
sequencer's transmit phases are in Sequencer.lean. -/

namespace Sys2Proof.Machine

/-- TXPCLR: `TXPAYLEN <- 0; done(0)` (41_frame_encode.md R191). -/
def execTxpclr (a : BitVec 8) (b : BitVec 16) (s : State) : Host.Outcome State Fault Refusal :=
  .next <| withOperands (Operands.empty a b) s fun _ =>
    let s1 : State := { s with txpay := [] }
    s1.done 0#64

/-- TXPPUSH: append a byte, or BADARG when the buffer is full (41_frame_encode.md R192). -/
def execTxppush (a : BitVec 8) (b : BitVec 16) (s : State) : Host.Outcome State Fault Refusal :=
  .next <| withOperands (Operands.byte a b) s fun byte =>
    if s.par.payCap ≤ s.txpay.length then s.refuse .badArg
    else
      let s1 : State := { s with txpay := s.txpay ++ [byte] }
      s1.done (BitVec.ofNat 64 s1.txpay.length)

/-- WRFRAME's issue: encode the frame into TXBUF, retain it, wait for the turnaround
(41_frame_encode.md R194). -/
def execWrframe (a : BitVec 8) (b : BitVec 16) (s : State) : Host.Outcome State Fault Refusal :=
  .next <| withOperands (Operands.frame a b) s fun (address, q) => whenOpen s fun s =>
    let s1 : State := { s with
      txbuf := txBytes s.par.crcSeed s.cfg.lead.toNat s.cfg.trail.toNat address q s.cfg.crcMode s.txpay
      txvalid := true
      txpos := 0 }
    s1.issue .txWait

/-- RESEND's issue: the retained bytes again, or NOFRAME (41_frame_encode.md R196). -/
def execResend (a : BitVec 8) (b : BitVec 16) (s : State) : Host.Outcome State Fault Refusal :=
  .next <| withOperands (Operands.empty a b) s fun _ => whenOpen s fun s =>
    if s.txvalid then
      let s1 : State := { s with txpos := 0 }
      s1.issue .txWait
    else s.refuse .noFrame

end Sys2Proof.Machine
end

