-- ==== Sys2Proof/Machine/Link.lean ====
section
/-! DEFINITION. NOP, LINKOPEN, LINKCLOSE (45_link_and_access.md section 2). -/

namespace Sys2Proof.Machine

/-- NOP: `done(0)` (45_link_and_access.md R341). -/
def execNop (a : BitVec 8) (b : BitVec 16) (s : State) : Host.Outcome State Fault Refusal :=
  .next <| withOperands (Operands.empty a b) s fun _ => s.done 0#64

/-- LINKOPEN: open a closed link, else BADSTATE (45_link_and_access.md R342). -/
def execLinkopen (a : BitVec 8) (b : BitVec 16) (s : State) : Host.Outcome State Fault Refusal :=
  .next <| withOperands (Operands.empty a b) s fun _ =>
    if s.linkOpen then s.refuse .badState
    else
      let s1 : State := { s with linkOpen := true, rxfifo := [], txvalid := false, rxvalid := false }
      s1.done 0#64

/-- LINKCLOSE: close the link; idempotent (45_link_and_access.md R343). -/
def execLinkclose (a : BitVec 8) (b : BitVec 16) (s : State) : Host.Outcome State Fault Refusal :=
  .next <| withOperands (Operands.empty a b) s fun _ =>
    let s1 : State := { s with linkOpen := false, rxfifo := [] }
    s1.done 0#64

end Sys2Proof.Machine
end

