-- ==== Sys2Proof/Machine/Slave.lean ====
section
/-! DEFINITION. The nine slave commands (44_slave.md). They act on one slot, whatever OPEN, EN and UNDEF
hold (R304). -/

namespace Sys2Proof.Machine

/-- SLCFG: declare a device in a slot, the rest as at reset (44_slave.md R302). -/
def execSlcfg (a : BitVec 8) (b : BitVec 16) (s : State) : Host.Outcome State Fault Refusal :=
  .next <| withOperands (Operands.slotConfig a b s) s fun S => (s.setSlot a.toNat S).done 0#64

/-- SLEN: set the enabled flag (44_slave.md R303). -/
def execSlen (a : BitVec 8) (b : BitVec 16) (s : State) : Host.Outcome State Fault Refusal :=
  .next <| withOperands (Operands.slotFlag a b s) s fun (S, e) =>
    (s.setSlot a.toNat { S with en := e }).done 0#64

/-- SLACK: the `ack()` transition (44_slave.md R306). -/
def execSlack (a : BitVec 8) (b : BitVec 16) (s : State) : Host.Outcome State Fault Refusal :=
  .next <| withOperands (Operands.slotOnly a b s) s fun S =>
    let wentOnline := !S.online s.cfg.maxRetry && S.ack.online s.cfg.maxRetry
    (s.setSlot a.toNat S.ack).done (ackWord wentOnline S.ack.txseq)

/-- SLNAK: the `nak()` transition (44_slave.md R308). -/
def execSlnak (a : BitVec 8) (b : BitVec 16) (s : State) : Host.Outcome State Fault Refusal :=
  .next <| withOperands (Operands.slotOnly a b s) s fun S =>
    let S1 := S.nak s.cfg.maxRetry (s.nowPlus Config.backoffUs)
    (s.setSlot a.toNat S1).done
      (nakWord (S.nakCrosses s.cfg.maxRetry) (S.nakBacksOff s.cfg.maxRetry) S1.txseq S1.retry)

/-- SLNAKR: as SLNAK, and TXSEQ forced to the resync value (44_slave.md R310). -/
def execSlnakr (a : BitVec 8) (b : BitVec 16) (s : State) : Host.Outcome State Fault Refusal :=
  .next <| withOperands (Operands.slotOnly a b s) s fun S =>
    let S1 := { S.nak s.cfg.maxRetry (s.nowPlus Config.backoffUs) with txseq := 0#2 }
    (s.setSlot a.toNat S1).done
      (nakWord (S.nakCrosses s.cfg.maxRetry) (S.nakBacksOff s.cfg.maxRetry) S1.txseq S1.retry)

/-- SLTKL: arm the reacquisition deadline (44_slave.md R312). -/
def execSltkl (a : BitVec 8) (b : BitVec 16) (s : State) : Host.Outcome State Fault Refusal :=
  .next <| withOperands (Operands.slotOnly a b s) s fun S =>
    let S1 := { S with reacq := s.nowPlus Config.reacqUs }
    (s.setSlot a.toNat S1).done S1.reacq

/-- SLQRY: what the scheduler may do with the slot now (44_slave.md R313). -/
def execSlqry (a : BitVec 8) (b : BitVec 16) (s : State) : Host.Outcome State Fault Refusal :=
  .next <| withOperands (Operands.slotOnly a b s) s fun S =>
    s.done (BitVec.ofNat 64 (S.query s.cfg.maxRetry s.now))

/-- SLRD: read a slot's field (44_slave.md R314). -/
def execSlrd (a : BitVec 8) (b : BitVec 16) (s : State) : Host.Outcome State Fault Refusal :=
  .next <| withOperands (Operands.slotPair a b s) s fun (S, sel) =>
    s.done (S.field s.cfg.maxRetry sel)

/-- SLSRX: store the receive sequence counter (44_slave.md R315). -/
def execSlsrx (a : BitVec 8) (b : BitVec 16) (s : State) : Host.Outcome State Fault Refusal :=
  .next <| withOperands (Operands.slotPair a b s) s fun (S, q) =>
    (s.setSlot a.toNat { S with rxseq := q }).done 0#64

end Sys2Proof.Machine
end

