-- ==== Sys2Proof/Machine/Dispatch.lean ====
section
/-! DEFINITION. One arm per instruction: each calls its meaning. -/

namespace Sys2Proof.Machine

/-- Execute one decoded instruction: a command (30_encoding.md R121 steps 2 to 4) or a received header
(42_frame_decode.md R233). -/
def exec (i : Instr) (s : State) : Host.Outcome State Fault Refusal :=
  match i with
  | .nop a b => Sys2Proof.Machine.execNop a b s
  | .ckinit a b => Sys2Proof.Machine.execCkinit a b s
  | .ckfold a b => Sys2Proof.Machine.execCkfold a b s
  | .ckfin a b => Sys2Proof.Machine.execCkfin a b s
  | .ckvfy a b => Sys2Proof.Machine.execCkvfy a b s
  | .txpclr a b => Sys2Proof.Machine.execTxpclr a b s
  | .txppush a b => Sys2Proof.Machine.execTxppush a b s
  | .wrframe a b => Sys2Proof.Machine.execWrframe a b s
  | .resend a b => Sys2Proof.Machine.execResend a b s
  | .rdframe a b => Sys2Proof.Machine.execRdframe a b s
  | .rxrd a b => Sys2Proof.Machine.execRxrd a b s
  | .idlewait a b => Sys2Proof.Machine.execIdlewait a b s
  | .rxflush a b => Sys2Proof.Machine.execRxflush a b s
  | .linkopen a b => Sys2Proof.Machine.execLinkopen a b s
  | .linkclose a b => Sys2Proof.Machine.execLinkclose a b s
  | .slcfg a b => Sys2Proof.Machine.execSlcfg a b s
  | .slen a b => Sys2Proof.Machine.execSlen a b s
  | .slack a b => Sys2Proof.Machine.execSlack a b s
  | .slnak a b => Sys2Proof.Machine.execSlnak a b s
  | .slnakr a b => Sys2Proof.Machine.execSlnakr a b s
  | .sltkl a b => Sys2Proof.Machine.execSltkl a b s
  | .slqry a b => Sys2Proof.Machine.execSlqry a b s
  | .slrd a b => Sys2Proof.Machine.execSlrd a b s
  | .slsrx a b => Sys2Proof.Machine.execSlsrx a b s
  | .frameSum8 r addr len x seq => Sys2Proof.Machine.execFrameSum8 r addr len x seq s
  | .frameCrc16 r addr len x seq => Sys2Proof.Machine.execFrameCrc16 r addr len x seq s

end Sys2Proof.Machine
end

