-- ==== Sys2Proof/Machine/Environment.lean ====
section
/-! DEFINITION. The steps of CLOCK, LINE-RX and LINE-FAULT, and the external reset. -/

namespace Sys2Proof.Machine

/-- `Tick(d)`, d >= 1: `NOW <- NOW + d` under the premise of 10_state.md R32 (43_timer.md R277). A tick
of 0 is no step of CLOCK (log 3); one beyond the premise is outside the model (log 5). -/
def tick (d : Nat) (s : State) : Host.Outcome State Fault Refusal :=
  if d = 0 then .next s
  else if s.now.toNat + d < Config.nowBound then .next { s with now := s.nowPlus d }
  else .fault .timeBeyondPremise

/-- `RxArrive(b)`: queued while the link is open, else dropped (20_memory.md R101). -/
def rxArrive (b : Byte) (s : State) : State :=
  if s.linkOpen then { s with rxfifo := s.rxfifo ++ [b] } else s

/-- What a fault leaves in RESULT: the bytes emitted, or discarded, before it (45_link_and_access.md
R349). -/
def State.faultValue (s : State) : Word :=
  match s.ph with
  | .txWait | .txShift => BitVec.ofNat 64 s.txpos
  | .idleWt => s.disc
  | .rxScan | .rxHdr | .rxBody | .fbBody | .idle => 0#64

/-- Does a fault end an RDFRAME, and so record the receive time (45_link_and_access.md R349)? -/
def Phase.receiving : Phase → Bool
  | .rxScan | .rxHdr | .rxBody | .fbBody => true
  | .idle | .txWait | .txShift | .idleWt => false

/-- `LineFault`, enabled while OPEN = 1 (45_link_and_access.md R349). -/
def lineFault (s : State) : State :=
  if s.linkOpen then
    let s1 : State := { s with linkOpen := false, linkerr := true, rxfifo := [] }
    if s.busy then (s1.stampIf s.ph.receiving).raise .ioErr s.faultValue else s1
  else s

/-- The external reset: every component as in 10_state.md R66; the parameters are not state, and the
agents' turns go on (70_reset_and_hazards.md R420, R421; log 9). -/
def externalReset (s : State) : State :=
  { State.resetFor s.par with agenda := s.agenda, turn := s.turn }

end Sys2Proof.Machine
end

