-- ==== Sys2Proof/Machine/Registers.lean ====
section
/-! DEFINITION. The register space REG: which accesses are legal, what a register reads as, what a write
to a register other than CMD does (20_memory.md R91 to R96, 10_state.md R46 to R59). -/

namespace Sys2Proof.Machine

/-- The only legal access: 8 bytes at a multiple of 8 below 0x100 (20_memory.md R91). -/
def legalAccess (off width : Nat) : Bool := width == 8 && off % 8 == 0 && decide (off < 0x100)

/-- What the register at a legal offset reads as (20_memory.md R92, 10_state.md R59). -/
def regRead (off : Nat) (s : State) : Word :=
  match off with
  | 0x00 => s.lastcmd
  | 0x08 => statusWord s
  | 0x10 => s.result
  | 0x18 => s.now
  | 0x20 => s.cfg.lead.setWidth 64
  | 0x28 => s.cfg.trail.setWidth 64
  | 0x30 => s.cfg.rdTimeout.setWidth 64
  | 0x38 => s.cfg.postRxDelay.setWidth 64
  | 0x40 => s.cfg.idleThresh.setWidth 64
  | 0x48 => cfgCtlWord s
  | 0x50 => s.cfg.maxRetry.setWidth 64
  | 0x58 => s.cnt.crcErr
  | 0x60 => s.cnt.timeout
  | 0x68 => s.cnt.flyByErr
  | 0x70 => rxinfoWord s
  | 0x78 => s.rxts
  | 0x80 => ckstateWord s
  | _ => 0#64

/-- A configuration write: stored unless locked, else WRERR (20_memory.md R93). -/
def State.configure (locked : Bool) (c : CfgRegs) (s : State) : State :=
  if locked then { s with wrerr := true } else { s with cfg := c }

/-- What a write to the register at a legal offset other than CMD's does (20_memory.md R93). -/
def regWrite (off : Nat) (v : Word) (s : State) : State :=
  let linkLock := s.linkOpen || s.busy
  match off with
  | 0x08 => clearSticky v s
  | 0x20 => s.configure linkLock { s.cfg with lead := v.extractLsb' 0 8 }
  | 0x28 => s.configure linkLock { s.cfg with trail := v.extractLsb' 0 8 }
  | 0x30 => s.configure linkLock { s.cfg with rdTimeout := v.extractLsb' 0 32 }
  | 0x38 => s.configure linkLock { s.cfg with postRxDelay := v.extractLsb' 0 32 }
  | 0x40 => s.configure linkLock { s.cfg with idleThresh := v.extractLsb' 0 32 }
  | 0x48 => s.configure s.busy { s.cfg with
      station := v.extractLsb' 0 7
      listenAll := v.getLsbD 7
      flyBy := v.getLsbD 8
      crcMode := v.getLsbD 9 }
  | 0x50 => s.configure s.busy { s.cfg with maxRetry := v.extractLsb' 0 8 }
  | 0x58 => { s with cnt := { s.cnt with crcErr := 0#64 } }
  | 0x60 => { s with cnt := { s.cnt with timeout := 0#64 } }
  | 0x68 => { s with cnt := { s.cnt with flyByErr := 0#64 } }
  | _ => { s with wrerr := true }

/-- HOST's `MemRead(off, width)`: the value, or a bus error; no other state changes (20_memory.md R91,
R92). -/
def hostRead (off width : Nat) (s : State) : State :=
  { s with bus := if legalAccess off width then .data (regRead off s) else .error }

end Sys2Proof.Machine
end

