-- ==== Sys2Proof/Machine/Sequencer.lean ====
section
/-! DEFINITION. SEQ's steps, one per rule of each phase (41_frame_encode.md R197, R198;
42_frame_decode.md R231 to R246). -/

namespace Sys2Proof.Machine

/-- What SEQ's turn does. -/
inductive SeqMove where
  /-- No enabled step. -/
  | wait
  /-- A step was taken. -/
  | moved (s : State)
  /-- The RXHDR step has stored the fifth header byte and evaluates the header in this same step
  (42_frame_decode.md R232): `s.rxbuf` holds the header. -/
  | header (s : State)
deriving DecidableEq, Repr

/-- TXWAIT: the turnaround hold (41_frame_encode.md R197). -/
def seqTxWait (s : State) : SeqMove :=
  if s.turnaroundOver then .moved { s with ph := .txShift } else .wait

/-- TXSHIFT: emit one byte, and complete with TXLEN after the last (41_frame_encode.md R198). With no
byte at TXPOS, which no run reaches, there is nothing to emit and no step (log 10). -/
def seqTxShift (s : State) : SeqMove :=
  match s.txbuf[s.txpos]? with
  | none => .wait
  | some b =>
    let s1 : State := { s.emit b with txpos := s.txpos + 1 }
    .moved (if s1.txpos = s1.txbuf.length then s1.done (BitVec.ofNat 64 s1.txbuf.length) else s1)

/-- A receive phase: consume the oldest byte of RXFIFO, or time out when there is none at or after the
deadline (42_frame_decode.md R242). -/
def seqReceive (s : State) (consume : Byte → State → SeqMove) : SeqMove :=
  match s.rxfifo with
  | b :: rest => consume b { s with rxfifo := rest }
  | [] => if s.dl ≤ s.now then .moved (s.rxDone .timeout 0#64) else .wait

/-- RXSCAN: drop bytes up to an introducer (42_frame_decode.md R231). -/
def seqRxScan (b : Byte) (s : State) : SeqMove :=
  .moved (if b = Config.introducer then { s with rxbuf := [b], ph := .rxHdr } else s)

/-- RXHDR: collect a header byte; the fifth completes the header (42_frame_decode.md R232). -/
def seqRxHdr (b : Byte) (s : State) : SeqMove :=
  let s1 : State := { s with rxbuf := s.rxbuf ++ [b] }
  if s1.rxbuf.length = 5 then .header s1 else .moved s1

/-- The verdict on a complete frame (42_frame_decode.md R235). -/
def State.frameDone (s : State) : State :=
  let m := s.rxctrl.getLsbD 2
  let covered := s.rxflen.toNat - ckSize m
  if ckVerify s.par.crcSeed m (s.rxbuf.take covered) (s.rxbuf.drop covered) then
    let s1 : State := { s with rxlen := BitVec.ofNat 16 (s.rxflen.toNat - 5 - ckSize m) }
    s1.rxDone .ok (s1.rxlen.setWidth 64)
  else s.rxDone .crcErr 0#64

/-- RXBODY: collect a byte of a frame for this station; the last validates it (42_frame_decode.md
R235). -/
def seqRxBody (b : Byte) (s : State) : SeqMove :=
  let s1 : State := { s with rxbuf := s.rxbuf ++ [b] }
  .moved (if s1.rxbuf.length = s1.rxflen.toNat then s1.frameDone else s1)

/-- The fly-by registers after one more byte of a frame for another station (42_frame_decode.md R238). -/
def FlyBy.consume (b : Byte) (f : FlyBy) : FlyBy :=
  let ck := ckSize f.mode
  let f1 : FlyBy :=
    if 5 + ck ≤ f.len.toNat then
      if f.cnt.toNat < f.len.toNat - ck then { f with acc := ckStep f.mode f.acc b }
      else if (ckBytes f.mode f.acc)[f.cnt.toNat - (f.len.toNat - ck)]? = some b then f
      else { f with bad := true }
    else f
  { f1 with cnt := f.cnt + 1#16 }

/-- FBBODY: consume a byte of a frame for another station; after the last, count a failure and scan on
(42_frame_decode.md R238). -/
def seqFbBody (b : Byte) (s : State) : SeqMove :=
  let s1 : State := { s with fb := s.fb.consume b }
  .moved (if s1.fb.cnt = s1.fb.len then
      { (if s1.fb.bad then s1.countFlyBy else s1) with ph := .rxScan }
    else s1)

/-- IDLEWT: discard a byte and restart the quiet period, or complete when the line has been quiet for
IDLETHRESH (42_frame_decode.md R246). -/
def seqIdleWt (s : State) : SeqMove :=
  match s.rxfifo with
  | _ :: rest => .moved { s with rxfifo := rest, disc := s.disc + 1#64, t0 := s.now }
  | [] =>
    if s.cfg.idleThresh.toNat ≤ s.now.toNat - s.t0.toNat then
      .moved ((s.stampIf (s.disc != 0#64)).done s.disc)
    else .wait

/-- SEQ's next step by phase, enabled only while BUSY = 1 (00_scope.md R11, 10_state.md R38). -/
def seqStep (s : State) : SeqMove :=
  if s.busy then
    match s.ph with
    | .idle => .wait
    | .txWait => seqTxWait s
    | .txShift => seqTxShift s
    | .rxScan => seqReceive s seqRxScan
    | .rxHdr => seqReceive s seqRxHdr
    | .rxBody => seqReceive s seqRxBody
    | .fbBody => seqReceive s seqFbBody
    | .idleWt => seqIdleWt s
  else .wait

end Sys2Proof.Machine
end

