-- ==== Sys2Proof/Machine/Execute.lean ====
section
/-! DEFINITION. What one turn of an agent does: HOST's write to CMD and SEQ's completed header fetch an
instruction, decode it and execute it; every other turn acts by itself. -/

namespace Sys2Proof.Machine

/-- "execute command w" (30_encoding.md R121): step 1 here, steps 2 to 4 in the command's meaning. -/
def runCommand (w : Word) (s : State) : Host.Outcome State Fault Refusal :=
  let s1 : State := { s with lastcmd := w }
  match decodeCommand w with
  | .ok i => exec i s1
  | .error _ => .next (s1.refuse .badCmd)

/-- HOST's `MemWrite(off, width, v)` (20_memory.md R91, R93; 30_encoding.md R121, R122). -/
def hostWrite (off width : Nat) (v : Word) (s : State) : Host.Outcome State Fault Refusal :=
  if legalAccess off width then
    let s1 : State := { s with bus := .done }
    if off = 0 then
      if s.busy then .next { s1 with cmdovr := true } else runCommand v s1
    else .next (regWrite off v s1)
  else .next { s with bus := .error }

/-- SEQ's turn. With no enabled step nothing happens (log 3). A completed header is decoded and
evaluated in the same step (42_frame_decode.md R232, R233). -/
def seqTurn (s : State) : Host.Outcome State Fault Refusal :=
  match seqStep s with
  | .wait => .next s
  | .moved s1 => .next s1
  | .header s1 =>
    match decodeHeader s1.rxbuf with
    | .ok i => exec i s1
    | .error _ => .fault .headerWithoutIntroducer

/-- One turn of one agent (00_scope.md R11). -/
def perform (e : Event) (s : State) : Host.Outcome State Fault Refusal :=
  match e with
  | .write off width v => hostWrite off width v s
  | .read off width => .next (hostRead off width s)
  | .seq => seqTurn s
  | .tick d => tick d s
  | .rxArrive b => .next (rxArrive b s)
  | .lineFault => .next (lineFault s)
  | .reset => .next (externalReset s)

/-- Whose turn it is: the agenda's first, or a free turn when the agenda is empty (00_scope.md R11;
log 2). -/
def nextTurn (s : State) : Event :=
  match s.agenda with
  | e :: _ => e
  | [] => Config.environment s.turn

/-- The state with that turn taken off. -/
def State.afterTurn (s : State) : State :=
  match s.agenda with
  | _ :: rest => { s with agenda := rest }
  | [] => { s with turn := s.turn + 1 }

/-- The state in which HOST's next turn writes command word w to CMD, with no command in progress. -/
def State.withCommand (w : Word) (s : State) : State :=
  { s with agenda := .write 0 8 w :: s.agenda, busy := false, ph := .idle }

/-- The state in which SEQ's next turn completes a wire header: an RDFRAME in its phase RXHDR on an open
link, all header bytes but the last collected and the last one waiting. -/
def State.withHeader (header : List Byte) (s : State) : State :=
  { s with
    agenda := .seq :: s.agenda
    linkOpen := true
    busy := true
    ph := .rxHdr
    rxbuf := header.take 4
    rxfifo := header.drop 4 ++ s.rxfifo }

/-- An encoded instruction where the next turn fetches it (log 4). -/
def State.withEncoded (e : Encoded) (s : State) : State :=
  match e with
  | .command w => s.withCommand w
  | .header bytes => s.withHeader bytes

end Sys2Proof.Machine
end

