-- ==== Sys2Proof/Machine/Step.lean ====
section
/-! DEFINITION. One step: the next agent's turn. -/

namespace Sys2Proof.Machine

/-- The next agent takes its turn (00_scope.md R11, 20_memory.md R103). -/
def step (s : State) : Host.Outcome State Fault Refusal :=
  perform (nextTurn s) s.afterTurn

/-- A row's bits placed where the very next step fetches them (log 4). -/
def State.withFetchWord (s : State) (nbits w : Nat) : State :=
  s.withEncoded (encodedOfTable nbits w)

end Sys2Proof.Machine
end

