-- ==== Sys2Proof/Safety.lean ====
section
/-! DEFINITION. The terms the statements use: the invariant of 10_state.md R67, runs of SEQ's turns, and
straight-line runs of commands. -/

namespace Sys2Proof.Machine

/-- The five header bytes of the frame that RXADDR, RXFLEN and RXCTRL describe (10_state.md R37). -/
def State.headerInRegs (s : State) : List Byte :=
  [Config.introducer, s.rxaddr, s.rxflen.extractLsb' 0 8, s.rxflen.extractLsb' 8 8, s.rxctrl]

/-- The checksum size of the frame RXCTRL describes. -/
def State.rxCk (s : State) : Nat := ckSize (s.rxctrl.getLsbD 2)

/-- The invariants of 10_state.md R67 and those its rules rest on. (h) of R67 speaks of the history and
is not here. -/
structure State.Inv (s : State) : Prop where
  /-- The parameters meet 00_scope.md R8. -/
  params : s.par.Ok
  /-- The slave table has NSLAVES slots (10_state.md R60). -/
  slots : s.slaves.length = s.par.nslaves
  /-- R67 (a). -/
  busy_iff : s.busy = true ↔ s.ph ≠ .idle
  /-- RES is PENDING from a long command's issue to its completion (R41). -/
  pending_iff : s.res = .pending ↔ s.busy = true
  /-- R67 (b). -/
  busy_open : s.busy = true → s.linkOpen = true
  /-- A closed link holds no input (R36, 20_memory.md R101). -/
  closed_empty : s.linkOpen = false → s.rxfifo = []
  /-- R67 (c). -/
  sum_small : s.mode = false → s.acc.toNat < 256
  /-- R67 (d). -/
  txpay_cap : s.txpay.length ≤ s.par.payCap
  /-- R67 (e), stronger: TXBUF holds a whole frame between its pads. -/
  retained : s.txvalid = true → ∃ lead trail a q m p, lead ≤ 255 ∧ trail ≤ 255 ∧
    p.length ≤ s.par.payCap ∧ s.txbuf = txBytes s.par.crcSeed lead trail a q m p
  /-- TXPOS counts bytes of TXBUF (R35). -/
  txpos_le : s.txpos ≤ s.txbuf.length
  /-- R67 (g). -/
  transmitting : s.ph = .txWait ∨ s.ph = .txShift → s.txvalid = true ∧ s.txpos < s.txbuf.length
  /-- Bytes go out only after the turnaround (43_timer.md R272). -/
  turnaround : s.ph = .txShift → s.turnaroundOver = true
  /-- R67 (f). -/
  validated : s.rxvalid = true →
    s.rxbuf.length = s.rxflen.toNat ∧ s.rxbuf.take 5 = s.headerInRegs ∧
    s.rxflen.toNat = 5 + s.rxlen.toNat + s.rxCk ∧ s.rxflen.toNat ≤ s.par.rxCap ∧
    ckVerify s.par.crcSeed (s.rxctrl.getLsbD 2) (s.rxbuf.take (s.rxflen.toNat - s.rxCk))
      (s.rxbuf.drop (s.rxflen.toNat - s.rxCk)) = true
  /-- No validated frame while an RDFRAME runs (R37). -/
  receiving : s.ph.receiving = true → s.rxvalid = false
  /-- RXBUF never holds more than RX_CAP bytes (R30). -/
  rxbuf_cap : s.rxbuf.length ≤ s.par.rxCap
  /-- RXHDR collects bytes 1 to 4 after an introducer (42_frame_decode.md R231, R232). -/
  collecting : s.ph = .rxHdr → s.rxbuf.length ≤ 4 ∧ s.rxbuf.head? = some Config.introducer
  /-- RXBODY collects the rest of a frame whose header passed the tests of 42_frame_decode.md R233. -/
  body : s.ph = .rxBody →
    5 ≤ s.rxbuf.length ∧ s.rxbuf.length < s.rxflen.toNat ∧ s.rxbuf.take 5 = s.headerInRegs ∧
    5 + s.rxCk ≤ s.rxflen.toNat ∧ s.rxflen.toNat ≤ s.par.rxCap
  /-- FBBODY has bytes of its frame to consume (42_frame_decode.md R236, R238). -/
  flyBy : s.ph = .fbBody → 5 ≤ s.fb.cnt.toNat ∧ s.fb.cnt.toNat < s.fb.len.toNat
  /-- The premise on NOW (R32). -/
  now_bound : s.now.toNat < Config.nowBound
  /-- RXTS is a past value of NOW (R43). -/
  rxts_past : s.rxts ≤ s.now
  /-- T0 is a past value of NOW (43_timer.md R274). -/
  t0_past : s.t0 ≤ s.now
  /-- A slot's deadlines lie at most the fixed intervals ahead (43_timer.md R276). -/
  deadlines : ∀ S ∈ s.slaves, S.reacq.toNat ≤ s.now.toNat + Config.reacqUs ∧
    S.backoff.toNat ≤ s.now.toNat + Config.backoffUs

/-- The outcome of k turns of the machine. -/
def runTurns (k : Nat) (s : State) : Host.Outcome State Fault Refusal := Host.Core.run Sys2Proof.core k s

/-- Execute instructions one after another, with nothing between them. -/
def execAll : List Instr → State → Host.Outcome State Fault Refusal
  | [], s => .next s
  | i :: rest, s =>
    match exec i s with
    | .next t => execAll rest t
    | .fault r => .fault r
    | .refused r => .refused r

end Sys2Proof.Machine
end

