-- ==== Sys2Proof/WellFormed.lean ====
section
/-! DEFINITION. Which instructions are well formed: the must-be-zero operand bits of 30_encoding.md
R124, the slot range of R121 step 2, and the least length of a frame (R137). -/

namespace Sys2Proof

/-- The operand bits of a command that must be 0, as one mask over each of a and b. The rows of
30_encoding.md R124. -/
structure ZeroMask where
  a : BitVec 8
  b : BitVec 16
deriving DecidableEq, Repr

/-- 30_encoding.md R124, one line per row of its table. A wire header has no such bits. -/
def Instr.zeroMask : Instr → ZeroMask
  | .nop _ _ | .ckfin _ _ | .txpclr _ _ | .resend _ _ | .rdframe _ _ | .idlewait _ _
  | .rxflush _ _ | .linkopen _ _ | .linkclose _ _ => ⟨0xFF#8, 0xFFFF#16⟩
  | .ckinit _ _ => ⟨0xFF#8, 0xFFFE#16⟩
  | .ckfold _ _ | .txppush _ _ => ⟨0x00#8, 0xFFFF#16⟩
  | .ckvfy _ _ => ⟨0xFF#8, 0x0000#16⟩
  | .wrframe _ _ => ⟨0x00#8, 0xFFFC#16⟩
  | .rxrd _ _ => ⟨0xFF#8, 0x0000#16⟩
  | .slcfg _ _ => ⟨0x00#8, 0xFE00#16⟩
  | .slen _ _ => ⟨0x00#8, 0xFFFE#16⟩
  | .slack _ _ | .slnak _ _ | .slnakr _ _ | .sltkl _ _ | .slqry _ _ => ⟨0x00#8, 0xFFFF#16⟩
  | .slrd _ _ => ⟨0x00#8, 0xFFFC#16⟩
  | .slsrx _ _ => ⟨0x00#8, 0xFFFC#16⟩
  | .frameSum8 _ _ _ _ _ | .frameCrc16 _ _ _ _ _ => ⟨0x00#8, 0x0000#16⟩

/-- The operands a and b of a command (30_encoding.md R123); a wire header has none. -/
def Instr.operands : Instr → BitVec 8 × BitVec 16
  | .nop a b | .ckinit a b | .ckfold a b | .ckfin a b | .ckvfy a b | .txpclr a b | .txppush a b
  | .wrframe a b | .resend a b | .rdframe a b | .rxrd a b | .idlewait a b | .rxflush a b
  | .linkopen a b | .linkclose a b | .slcfg a b | .slen a b | .slack a b | .slnak a b
  | .slnakr a b | .sltkl a b | .slqry a b | .slrd a b | .slsrx a b => (a, b)
  | .frameSum8 _ _ _ _ _ | .frameCrc16 _ _ _ _ _ => (0#8, 0#16)

/-- Does the command take a slot index in a (30_encoding.md R124)? -/
def Instr.takesSlot : Instr → Bool
  | .slcfg _ _ | .slen _ _ | .slack _ _ | .slnak _ _ | .slnakr _ _ | .sltkl _ _ | .slqry _ _
  | .slrd _ _ | .slsrx _ _ => true
  | .nop _ _ | .ckinit _ _ | .ckfold _ _ | .ckfin _ _ | .ckvfy _ _ | .txpclr _ _ | .txppush _ _
  | .wrframe _ _ | .resend _ _ | .rdframe _ _ | .rxrd _ _ | .idlewait _ _ | .rxflush _ _
  | .linkopen _ _ | .linkclose _ _ | .frameSum8 _ _ _ _ _ | .frameCrc16 _ _ _ _ _ => false

/-- Is the instruction one of the 24 commands (30_encoding.md R125)? -/
def Instr.isCommand : Instr → Bool
  | .frameSum8 _ _ _ _ _ | .frameCrc16 _ _ _ _ _ => false
  | .nop _ _ | .ckinit _ _ | .ckfold _ _ | .ckfin _ _ | .ckvfy _ _ | .txpclr _ _ | .txppush _ _
  | .wrframe _ _ | .resend _ _ | .rdframe _ _ | .rxrd _ _ | .idlewait _ _ | .rxflush _ _
  | .linkopen _ _ | .linkclose _ _ | .slcfg _ _ | .slen _ _ | .slack _ _ | .slnak _ _
  | .slnakr _ _ | .sltkl _ _ | .slqry _ _ | .slrd _ _ | .slsrx _ _ => true

/-- The least length a header may declare, `5 + ck` (30_encoding.md R137); 0 for a command. -/
def Instr.leastLength : Instr → Nat
  | .frameSum8 _ _ _ _ _ => 6
  | .frameCrc16 _ _ _ _ _ => 7
  | .nop _ _ | .ckinit _ _ | .ckfold _ _ | .ckfin _ _ | .ckvfy _ _ | .txpclr _ _ | .txppush _ _
  | .wrframe _ _ | .resend _ _ | .rdframe _ _ | .rxrd _ _ | .idlewait _ _ | .rxflush _ _
  | .linkopen _ _ | .linkclose _ _ | .slcfg _ _ | .slen _ _ | .slack _ _ | .slnak _ _
  | .slnakr _ _ | .sltkl _ _ | .slqry _ _ | .slrd _ _ | .slsrx _ _ => 0

/-- The length a header declares (30_encoding.md R132); 0 for a command. -/
def Instr.declaredLength : Instr → Nat
  | .frameSum8 _ _ len _ _ | .frameCrc16 _ _ len _ _ => len.toNat
  | .nop _ _ | .ckinit _ _ | .ckfold _ _ | .ckfin _ _ | .ckvfy _ _ | .txpclr _ _ | .txppush _ _
  | .wrframe _ _ | .resend _ _ | .rdframe _ _ | .rxrd _ _ | .idlewait _ _ | .rxflush _ _
  | .linkopen _ _ | .linkclose _ _ | .slcfg _ _ | .slen _ _ | .slack _ _ | .slnak _ _
  | .slnakr _ _ | .sltkl _ _ | .slqry _ _ | .slrd _ _ | .slsrx _ _ => 0

/-- No must-be-zero operand bit is set (30_encoding.md R124, R126 (b)). -/
def Instr.operandBitsOk (i : Instr) : Bool :=
  (i.operands.1 &&& i.zeroMask.a == 0#8) && (i.operands.2 &&& i.zeroMask.b == 0#16)

/-- A slot index is in the table of n slots (30_encoding.md R121 step 2). -/
def Instr.slotOk (n : Nat) (i : Instr) : Bool :=
  !i.takesSlot || decide (i.operands.1.toNat < n)

/-- A header's length can hold the header and the checksum (30_encoding.md R137). -/
def Instr.lengthOk (i : Instr) : Bool :=
  decide (i.leastLength ≤ i.declaredLength)

/-- A well-formed instruction for a table of n slots. -/
def Instr.wellFormed (n : Nat) (i : Instr) : Bool :=
  i.operandBitsOk && i.slotOk n && i.lengthOk

end Sys2Proof
end

