-- ==== Sys2Proof/Certificates/Slice0/Obligations.lean ====
section
/-! DEFINITION. The statements for the provers, from the numbered rules of spec/. -/

open Sys2Proof Sys2Proof.Machine

namespace Sys2Proof.Certificates

/-- A completion with a code and a value (00_scope.md R13): `RES <- code; RESULT <- v; BUSY <- 0;
PH <- IDLE`, nothing else. -/
def ends (code : ResultCode) (v : Nat) (s : State) : State :=
  { s with res := code, result := BitVec.ofNat 64 v, busy := false, ph := .idle }

/-- A refused command with BADARG (60_exceptions.md R371). -/
def badArg (s : State) : State := ends .badArg 0 s

/-- A long command's issue (30_encoding.md R127): `BUSY <- 1; RES <- PENDING; RESULT <- 0` and a phase. -/
def issues (ph : Phase) (s : State) : State :=
  { s with busy := true, res := .pending, result := 0, ph := ph }

/-- The command word of an instruction: `op + a * 2^8 + b * 2^16` (30_encoding.md R128). -/
def hasWord (i : Instr) (op : Nat) (a : BitVec 8) (b : BitVec 16) : Prop :=
  encode i = .command (BitVec.ofNat 64 (op + a.toNat * 2 ^ 8 + b.toNat * 2 ^ 16))

/-- The opcodes of 30_encoding.md R125. -/
def opcodes : List Nat :=
  [0x00, 0x10, 0x11, 0x12, 0x13, 0x20, 0x21, 0x22, 0x23, 0x30, 0x31, 0x32, 0x33, 0x40, 0x41,
    0x50, 0x51, 0x52, 0x53, 0x54, 0x55, 0x56, 0x57, 0x58]

/-- The numbers of PH (10_state.md R38). -/
def phaseNumber : Phase → Nat
  | .idle => 0
  | .txWait => 1
  | .txShift => 2
  | .rxScan => 3
  | .rxHdr => 4
  | .rxBody => 5
  | .fbBody => 6
  | .idleWt => 7

/-- The numbers of the result codes (60_exceptions.md R371). -/
def resultNumber : ResultCode → Nat
  | .ok => 0x00
  | .timeout => 0x01
  | .crcErr => 0x02
  | .overflow => 0x03
  | .badLen => 0x04
  | .ioErr => 0x05
  | .badState => 0x06
  | .badCmd => 0x07
  | .badArg => 0x08
  | .noFrame => 0x09
  | .pending => 0xFF

/-- The state with slot n replaced, nothing else. -/
def withSlot (n : Nat) (S : Slot) (s : State) : State := { s with slaves := s.slaves.set n S }

/-- The end of an RDFRAME (42_frame_decode.md R241) with an outcome that counts nothing. -/
def rxEnds (code : ResultCode) (v : Nat) (s : State) : State :=
  ends code v { s with rxvalid := code == .ok, rxts := s.now }

/-- What a received header does (42_frame_decode.md R233, R236): m its mode, address and ctrl its raw
bytes, len its declared length, header its five bytes. -/
def headerOutcome (m : Bool) (address : BitVec 8) (len : BitVec 16) (ctrl : BitVec 8)
    (header : List Byte) (s : State) : State :=
  if s.cfg.listenAll = true ∨ address.extractLsb' 0 7 = s.cfg.station then
    let s1 : State := { s with rxaddr := address, rxctrl := ctrl, rxflen := len }
    if len.toNat > s.par.rxCap then rxEnds .overflow 0 s1
    else if len.toNat < 5 + (if m then 2 else 1) then rxEnds .badLen 0 s1
    else { s1 with ph := .rxBody }
  else
    let s1 : State := { s with fb := ⟨ckRange s.par.crcSeed m header, 5, len, m, false⟩ }
    if len.toNat < 5 + (if m then 2 else 1) then
      { s1 with
        cnt := if s.cfg.flyBy then { s.cnt with flyByErr := s.cnt.flyByErr + 1 } else s.cnt
        ph := if len.toNat ≤ 5 then .rxScan else .fbBody }
    else { s1 with ph := .fbBody }

end Sys2Proof.Certificates

open Sys2Proof.Certificates

/-! ### Encodings -/

/-- Decoding an encoded instruction gives it back, with every operand at every value. -/
def Obligations.DecodeEncodeAgree : Prop := ∀ i : Instr, decode (encode i) = .ok i

/-- Whatever decodes is the encoding of what it decodes to: no two words or headers share a meaning. -/
def Obligations.EncodeDecodeAgree : Prop :=
  ∀ (e : Encoded) (i : Instr), decode e = .ok i → encode i = e

/-- A word is no command exactly when one of bits 63:32 is 1 or its op is not in the map. -/
def Obligations.IllegalCommandWordsExactly : Prop :=
  ∀ w : Word, (∀ i, decodeCommand w ≠ .ok i) ↔
    (w.toNat / 2 ^ 32 ≠ 0 ∨ w.toNat % 2 ^ 8 ∉ opcodes)

/-- Words and headers the spec writes out decode to what it says they are. -/
def Obligations.WordsOfTheSpecDecode : Prop :=
  decodeCommand 0x0000000000010010#64 = .ok (.ckinit 0 1) ∧
  decodeCommand 0x0000000000005311#64 = .ok (.ckfold 0x53 0) ∧
  decodeCommand 0x00000000E5CC0013#64 = .ok (.ckvfy 0 0xE5CC) ∧
  decodeCommand 0x0000000000006021#64 = .ok (.txppush 0x60 0) ∧
  decodeCommand 0x0000000000010522#64 = .ok (.wrframe 0x05 1) ∧
  decodeCommand 0x0000000000010031#64 = .ok (.rxrd 0 1) ∧
  decodeCommand 0x0000000001050050#64 = .ok (.slcfg 0 0x105) ∧
  decodeHeader [0x53#8, 0x85#8, 0x08#8, 0x00#8, 0x05#8] = .ok (.frameCrc16 1 5 8 0 1) ∧
  decodeHeader [0x53#8, 0x05#8, 0x07#8, 0x00#8, 0x01#8] = .ok (.frameSum8 0 5 7 0 1)

/-! ### What a step runs -/

/-- HOST's write of a command's word to CMD while BUSY = 0 executes that command, LASTCMD holding the
word (30_encoding.md R121; the write itself answers normally). -/
def Obligations.StepRunsDecodedCommand : Prop :=
  ∀ (s : State) (w : Word) (rest : List Event) (i : Instr),
    s.agenda = .write 0 8 w :: rest → s.busy = false → decodeCommand w = .ok i →
    step s = exec i { s with agenda := rest, bus := .done, lastcmd := w }

/-- SEQ's RXHDR step that stores the fifth header byte evaluates the header it decodes to. -/
def Obligations.StepRunsReceivedHeader : Prop :=
  ∀ (s : State) (b : Byte) (more : List Byte) (rest : List Event) (i : Instr),
    s.agenda = .seq :: rest → s.busy = true → s.ph = .rxHdr → s.rxfifo = b :: more →
    s.rxbuf.length = 4 → decodeHeader (s.rxbuf ++ [b]) = .ok i →
    step s = exec i { s with agenda := rest, rxfifo := more, rxbuf := s.rxbuf ++ [b] }

/-- A word that is no command changes LASTCMD, RES (BADCMD) and RESULT, nothing else. -/
def Obligations.IllegalCommandRaisesBadCmd : Prop :=
  ∀ (s : State) (w : Word) (rest : List Event),
    s.agenda = .write 0 8 w :: rest → s.busy = false →
    (w.toNat / 2 ^ 32 ≠ 0 ∨ w.toNat % 2 ^ 8 ∉ opcodes) →
    step s = .next (ends .badCmd 0 { s with agenda := rest, bus := .done, lastcmd := w })

/-- A command written while BUSY = 1 sets CMDOVR and changes nothing else. -/
def Obligations.CommandWhileBusyDropped : Prop :=
  ∀ (s : State) (w : Word) (rest : List Event),
    s.agenda = .write 0 8 w :: rest → s.busy = true →
    step s = .next { s with agenda := rest, bus := .done, cmdovr := true }

/-- An ill-formed command (an operand bit that must be 0 is 1, or the slot is not in the table) ends
with BADARG and no other effect, whatever else holds. -/
def Obligations.IllFormedCommandRaisesBadArg : Prop :=
  ∀ (s : State) (i : Instr), i.isCommand = true → s.slaves.length = s.par.nslaves →
    i.wellFormed s.par.nslaves = false → exec i s = .next (badArg s)

/-! ### The commands -/

/-- NOP (45_link_and_access.md R341). -/
def Obligations.NopOnlyCompletes : Prop :=
  (∀ (a : BitVec 8) (b : BitVec 16), hasWord (.nop a b) 0x00 a b) ∧
  (∀ (s : State) (a : BitVec 8) (b : BitVec 16),
    exec (.nop a b) s = .next (if a = 0 ∧ b = 0 then ends .ok 0 s else badArg s)) ∧
  (∀ (s : State) (rest : List Event), s.agenda = .write 0 8 0 :: rest → s.busy = true →
    step s = .next { s with agenda := rest, bus := .done, cmdovr := true })

/-- CKINIT (40_checksum.md R170, with ck_init of R161). -/
def Obligations.CkinitLoadsSeedOrZero : Prop :=
  ∀ (s : State) (a : BitVec 8) (b : BitVec 16), hasWord (.ckinit a b) 0x10 a b ∧
    exec (.ckinit a b) s = .next (if a = 0 ∧ b.toNat ≤ 1 then
      (if b = 1 then ends .ok s.par.crcSeed.toNat { s with mode := true, acc := s.par.crcSeed }
        else ends .ok 0 { s with mode := false, acc := 0 })
      else badArg s)

/-- CKFOLD (40_checksum.md R171, with ck_step of R164): crc_step, or the sum of R163, in every state
that keeps R67 (c) (in mode 0 ACC is below 256, and it stays so). -/
def Obligations.CkfoldFoldsOneByte : Prop :=
  ∀ (s : State) (a : BitVec 8) (b : BitVec 16), (s.mode = false → s.acc.toNat < 256) →
    hasWord (.ckfold a b) 0x11 a b ∧
    exec (.ckfold a b) s = .next (if b = 0 then
      ends .ok (ckStep s.mode s.acc a).toNat { s with acc := ckStep s.mode s.acc a } else badArg s) ∧
    (s.mode = false → ckStep s.mode s.acc a = BitVec.ofNat 16 ((s.acc.toNat + a.toNat) % 256)) ∧
    (s.mode = true → ckStep s.mode s.acc a = crcStep s.acc a)

/-- CKFIN (40_checksum.md R172) reports ACC, finalization being the identity; CKVFY (R173) compares it:
RESULT is 1 exactly when ACC is the operand (in mode 0, where ACC < 256, never for an operand of 256 or
more), which is when the checksum bytes are the trailer the operand was assembled from. -/
def Obligations.CkfinCkvfyReadTheEngine : Prop :=
  (∀ (s : State) (a : BitVec 8) (b : BitVec 16), hasWord (.ckfin a b) 0x12 a b ∧
    exec (.ckfin a b) s = .next (if a = 0 ∧ b = 0 then ends .ok s.acc.toNat s else badArg s)) ∧
  (∀ (s : State) (a : BitVec 8) (b : BitVec 16), hasWord (.ckvfy a b) 0x13 a b ∧
    exec (.ckvfy a b) s = .next (if a = 0 then ends .ok (if s.acc = b then 1 else 0) s else badArg s)) ∧
  (∀ (s : State) (b : BitVec 16), s.Inv → s.mode = false → 256 ≤ b.toNat →
    exec (.ckvfy 0 b) s = .next (ends .ok 0 s)) ∧
  (∀ (v : BitVec 16) (lo : Byte), v.toNat < 256 →
    (v = BitVec.ofNat 16 lo.toNat ↔ ckBytes false v = [lo])) ∧
  (∀ (v : BitVec 16) (lo hi : Byte),
    v = BitVec.ofNat 16 (lo.toNat + 256 * hi.toNat) ↔ ckBytes true v = [lo, hi])

/-- TXPCLR (41_frame_encode.md R191) and TXPPUSH (R192), in every state that keeps R67 (d). -/
def Obligations.StagingBufferClearsAndAppends : Prop :=
  ∀ (s : State) (a : BitVec 8) (b : BitVec 16), s.txpay.length ≤ s.par.payCap →
    hasWord (.txpclr a b) 0x20 a b ∧ hasWord (.txppush a b) 0x21 a b ∧
    exec (.txpclr a b) s =
      .next (if a = 0 ∧ b = 0 then ends .ok 0 { s with txpay := [] } else badArg s) ∧
    exec (.txppush a b) s = .next (if b = 0 ∧ s.txpay.length ≠ s.par.payCap then
      ends .ok (s.txpay.length + 1) { s with txpay := s.txpay ++ [a] } else badArg s)

/-- WRFRAME's issue (41_frame_encode.md R194): the frame between its pads is in TXBUF, retained, and
waits for the turnaround; the payload stays staged. -/
def Obligations.WrframeEncodesAndHolds : Prop :=
  ∀ (s : State) (a : BitVec 8) (b : BitVec 16), hasWord (.wrframe a b) 0x22 a b ∧
    exec (.wrframe a b) s = .next (if b.toNat ≤ 3 then
      (if s.linkOpen = true then
        issues .txWait { s with
          txbuf := txBytes s.par.crcSeed s.cfg.lead.toNat s.cfg.trail.toNat a (BitVec.ofNat 2 b.toNat)
            s.cfg.crcMode s.txpay
          txvalid := true
          txpos := 0 }
        else ends .badState 0 s)
      else badArg s)

/-- RESEND's issue (41_frame_encode.md R196). -/
def Obligations.ResendKeepsRetainedBytes : Prop :=
  ∀ (s : State) (a : BitVec 8) (b : BitVec 16), hasWord (.resend a b) 0x23 a b ∧
    exec (.resend a b) s = .next (if a = 0 ∧ b = 0 then
      (if s.linkOpen = true then
        (if s.txvalid = true then issues .txWait { s with txpos := 0 } else ends .noFrame 0 s)
        else ends .badState 0 s)
      else badArg s)

/-- RDFRAME's issue (42_frame_decode.md R230). -/
def Obligations.RdframeStartsScan : Prop :=
  ∀ (s : State) (a : BitVec 8) (b : BitVec 16), hasWord (.rdframe a b) 0x30 a b ∧
    exec (.rdframe a b) s = .next (if a = 0 ∧ b = 0 then
      (if s.linkOpen = true then
        issues .rxScan { s with
          dl := BitVec.ofNat 64 (s.now.toNat + s.cfg.rdTimeout.toNat)
          rxvalid := false
          rxbuf := []
          rxlen := 0
          rxaddr := 0
          rxctrl := 0
          rxflen := 0 }
        else ends .badState 0 s)
      else badArg s)

/-- RXRD (42_frame_decode.md R243), in every state that keeps R67: every payload byte of a validated
frame can be read, and nothing else. -/
def Obligations.RxrdReadsThePayload : Prop :=
  ∀ (s : State) (a : BitVec 8) (b : BitVec 16), s.Inv → hasWord (.rxrd a b) 0x31 a b ∧
    (a = 0 ∧ s.rxvalid = true ∧ b.toNat < s.rxlen.toNat →
      ∃ byte, s.rxbuf[5 + b.toNat]? = some byte ∧
        exec (.rxrd a b) s = .next (ends .ok byte.toNat s)) ∧
    (¬(a = 0 ∧ s.rxvalid = true ∧ b.toNat < s.rxlen.toNat) → exec (.rxrd a b) s = .next (badArg s))

/-- IDLEWAIT's issue (42_frame_decode.md R245). -/
def Obligations.IdlewaitStartsQuietPeriod : Prop :=
  ∀ (s : State) (a : BitVec 8) (b : BitVec 16), hasWord (.idlewait a b) 0x32 a b ∧
    exec (.idlewait a b) s = .next (if a = 0 ∧ b = 0 then
      (if s.linkOpen = true then issues .idleWt { s with t0 := s.now, disc := 0 }
        else ends .badState 0 s)
      else badArg s)

/-- RXFLUSH (42_frame_decode.md R248). -/
def Obligations.RxflushEmptiesAndCounts : Prop :=
  ∀ (s : State) (a : BitVec 8) (b : BitVec 16), hasWord (.rxflush a b) 0x33 a b ∧
    exec (.rxflush a b) s = .next (if a = 0 ∧ b = 0 then
      (if s.linkOpen = true then
        ends .ok s.rxfifo.length
          { s with rxfifo := [], rxts := if s.rxfifo.length > 0 then s.now else s.rxts }
        else ends .badState 0 s)
      else badArg s)

/-- LINKOPEN (45_link_and_access.md R342) opens a closed link afresh; LINKCLOSE (R343) closes it. -/
def Obligations.LinkOpensAfreshAndCloses : Prop :=
  ∀ (s : State) (a : BitVec 8) (b : BitVec 16),
    hasWord (.linkopen a b) 0x40 a b ∧ hasWord (.linkclose a b) 0x41 a b ∧
    exec (.linkopen a b) s = .next (if a = 0 ∧ b = 0 then
      (if s.linkOpen = true then ends .badState 0 s
        else ends .ok 0 { s with linkOpen := true, rxfifo := [], txvalid := false, rxvalid := false })
      else badArg s) ∧
    exec (.linkclose a b) s = .next (if a = 0 ∧ b = 0 then
      ends .ok 0 { s with linkOpen := false, rxfifo := [] } else badArg s)

/-- SLCFG (44_slave.md R302). -/
def Obligations.SlcfgReinitialisesSlot : Prop :=
  ∀ (s : State) (a : BitVec 8) (b : BitVec 16), s.slaves.length = s.par.nslaves →
    hasWord (.slcfg a b) 0x50 a b ∧
    exec (.slcfg a b) s = .next (if b.toNat < 2 ^ 9 ∧ a.toNat < s.par.nslaves then
      ends .ok 0 (withSlot a.toNat
        { addr := BitVec.ofNat 7 b.toNat, undef := b.getLsbD 7, en := b.getLsbD 8, txseq := 0,
          rxseq := 0, retry := 255, reacq := 0, backoff := 0 } s)
      else badArg s)

/-- SLEN (44_slave.md R303) and SLSRX (R315) store one field of a slot and nothing else. -/
def Obligations.SlenSlsrxStoreOneField : Prop :=
  ∀ (s : State) (a : BitVec 8) (b : BitVec 16), s.slaves.length = s.par.nslaves →
    hasWord (.slen a b) 0x51 a b ∧ hasWord (.slsrx a b) 0x58 a b ∧
    (b.toNat ≤ 1 ∧ a.toNat < s.par.nslaves → ∃ S, s.slaves[a.toNat]? = some S ∧
      exec (.slen a b) s = .next (ends .ok 0 (withSlot a.toNat { S with en := b.getLsbD 0 } s))) ∧
    (¬(b.toNat ≤ 1 ∧ a.toNat < s.par.nslaves) → exec (.slen a b) s = .next (badArg s)) ∧
    (b.toNat ≤ 3 ∧ a.toNat < s.par.nslaves → ∃ S, s.slaves[a.toNat]? = some S ∧
      exec (.slsrx a b) s =
        .next (ends .ok 0 (withSlot a.toNat { S with rxseq := BitVec.ofNat 2 b.toNat } s))) ∧
    (¬(b.toNat ≤ 3 ∧ a.toNat < s.par.nslaves) → exec (.slsrx a b) s = .next (badArg s))

/-- SLACK (44_slave.md R306, with next(q) of R301). -/
def Obligations.SlackAdvancesAndAcknowledges : Prop :=
  ∀ (s : State) (a : BitVec 8) (b : BitVec 16), s.slaves.length = s.par.nslaves →
    hasWord (.slack a b) 0x52 a b ∧
    (b = 0 ∧ a.toNat < s.par.nslaves → ∃ S, s.slaves[a.toNat]? = some S ∧
      exec (.slack a b) s = .next (ends .ok
        ((decide (s.cfg.maxRetry.toNat ≤ S.retry.toNat ∧ 0 < s.cfg.maxRetry.toNat)).toNat
          + (S.txseq.toNat % 3 + 1) * 2 ^ 8)
        (withSlot a.toNat { S with txseq := BitVec.ofNat 2 (S.txseq.toNat % 3 + 1), retry := 0 } s))) ∧
    (¬(b = 0 ∧ a.toNat < s.par.nslaves) → exec (.slack a b) s = .next (badArg s))

/-- SLNAK (44_slave.md R308, R311). -/
def Obligations.SlnakCountsAFailure : Prop :=
  ∀ (s : State) (a : BitVec 8) (b : BitVec 16), s.slaves.length = s.par.nslaves →
    hasWord (.slnak a b) 0x53 a b ∧
    (b = 0 ∧ a.toNat < s.par.nslaves → ∃ S, s.slaves[a.toNat]? = some S ∧
      (let new := min (S.retry.toNat + 1) 255
       let offline := decide (S.retry.toNat < s.cfg.maxRetry.toNat ∧ s.cfg.maxRetry.toNat ≤ new)
       let backoff := decide (new < s.cfg.maxRetry.toNat)
       exec (.slnak a b) s = .next (ends .ok
        (offline.toNat * 2 + backoff.toNat * 4 + S.txseq.toNat * 2 ^ 8 + new * 2 ^ 16)
        (withSlot a.toNat { S with
          retry := BitVec.ofNat 8 new
          backoff := if backoff then BitVec.ofNat 64 (s.now.toNat + 10000) else S.backoff } s)))) ∧
    (¬(b = 0 ∧ a.toNat < s.par.nslaves) → exec (.slnak a b) s = .next (badArg s))

/-- SLNAKR (44_slave.md R310): as SLNAK, with TXSEQ forced to 0. -/
def Obligations.SlnakrForcesResync : Prop :=
  ∀ (s : State) (a : BitVec 8) (b : BitVec 16), s.slaves.length = s.par.nslaves →
    hasWord (.slnakr a b) 0x54 a b ∧
    (b = 0 ∧ a.toNat < s.par.nslaves → ∃ S, s.slaves[a.toNat]? = some S ∧
      (let new := min (S.retry.toNat + 1) 255
       let offline := decide (S.retry.toNat < s.cfg.maxRetry.toNat ∧ s.cfg.maxRetry.toNat ≤ new)
       let backoff := decide (new < s.cfg.maxRetry.toNat)
       exec (.slnakr a b) s = .next (ends .ok
        (offline.toNat * 2 + backoff.toNat * 4 + new * 2 ^ 16)
        (withSlot a.toNat { S with
          txseq := 0
          retry := BitVec.ofNat 8 new
          backoff := if backoff then BitVec.ofNat 64 (s.now.toNat + 10000) else S.backoff } s)))) ∧
    (¬(b = 0 ∧ a.toNat < s.par.nslaves) → exec (.slnakr a b) s = .next (badArg s))

/-- SLTKL (44_slave.md R312). -/
def Obligations.SltklArmsReacquisition : Prop :=
  ∀ (s : State) (a : BitVec 8) (b : BitVec 16), s.slaves.length = s.par.nslaves →
    hasWord (.sltkl a b) 0x55 a b ∧
    (b = 0 ∧ a.toNat < s.par.nslaves → ∃ S, s.slaves[a.toNat]? = some S ∧
      exec (.sltkl a b) s = .next (ends .ok (s.now.toNat + 5000000)
        (withSlot a.toNat { S with reacq := BitVec.ofNat 64 (s.now.toNat + 5000000) } s))) ∧
    (¬(b = 0 ∧ a.toNat < s.par.nslaves) → exec (.sltkl a b) s = .next (badArg s))

/-- SLQRY (44_slave.md R313): its tests in their order; no slot changes. -/
def Obligations.SlqryClassifiesSlot : Prop :=
  ∀ (s : State) (a : BitVec 8) (b : BitVec 16), s.slaves.length = s.par.nslaves →
    hasWord (.slqry a b) 0x56 a b ∧
    (b = 0 ∧ a.toNat < s.par.nslaves → ∃ S, s.slaves[a.toNat]? = some S ∧
      exec (.slqry a b) s = .next (ends .ok
        (if S.undef = true then 0
         else if S.en = false then 1
         else if s.cfg.maxRetry.toNat ≤ S.retry.toNat then
           (if s.now.toNat < S.reacq.toNat then 2 else 3)
         else if s.now.toNat < S.backoff.toNat then 4
         else 5) s)) ∧
    (¬(b = 0 ∧ a.toNat < s.par.nslaves) → exec (.slqry a b) s = .next (badArg s))

/-- SLRD (44_slave.md R314): the field of each selector; no slot changes. -/
def Obligations.SlrdReadsSlotFields : Prop :=
  ∀ (s : State) (a : BitVec 8) (b : BitVec 16), s.slaves.length = s.par.nslaves →
    hasWord (.slrd a b) 0x57 a b ∧
    (b.toNat ≤ 3 ∧ a.toNat < s.par.nslaves → ∃ S, s.slaves[a.toNat]? = some S ∧
      exec (.slrd a b) s = .next (ends .ok
        (if b = 0 then S.addr.toNat + S.undef.toNat * 2 ^ 7 + S.en.toNat * 2 ^ 8 + S.txseq.toNat * 2 ^ 9
            + S.rxseq.toNat * 2 ^ 11 + (decide (S.retry.toNat < s.cfg.maxRetry.toNat)).toNat * 2 ^ 13
         else if b = 1 then S.retry.toNat
         else if b = 2 then S.reacq.toNat
         else S.backoff.toNat) s)) ∧
    (¬(b.toNat ≤ 3 ∧ a.toNat < s.par.nslaves) → exec (.slrd a b) s = .next (badArg s))

/-- The two wire headers (42_frame_decode.md R233, R236): for this station taken, refused with OVERFLOW
or BADLEN, for another station flown by. -/
def Obligations.ReceivedHeaderIsEvaluated : Prop :=
  ∀ (s : State) (r : BitVec 1) (addr : BitVec 7) (len : BitVec 16) (x : BitVec 5) (seq : BitVec 2),
    exec (.frameSum8 r addr len x seq) s = .next (headerOutcome false (r ++ addr) len (x ++ 0#1 ++ seq)
      [0x53, r ++ addr, len.extractLsb' 0 8, len.extractLsb' 8 8, x ++ 0#1 ++ seq] s) ∧
    exec (.frameCrc16 r addr len x seq) s = .next (headerOutcome true (r ++ addr) len (x ++ 1#1 ++ seq)
      [0x53, r ++ addr, len.extractLsb' 0 8, len.extractLsb' 8 8, x ++ 1#1 ++ seq] s)

/-! ### The checksum functions and the frame bytes -/

/-- crc_step is the source's formula over unbounded integers, truncated once (40_checksum.md R162). -/
def Obligations.CrcStepIsTheSourceFormula : Prop :=
  ∀ (acc : BitVec 16) (b : Byte),
    let x0 := (acc.toNat >>> 8) ^^^ b.toNat
    let x := x0 ^^^ (x0 >>> 4)
    (crcStep acc b).toNat = ((acc.toNat <<< 8) ^^^ (x <<< 12) ^^^ (x <<< 5) ^^^ x) % 2 ^ 16

/-- One step of the bitwise form of the CRC (40_checksum.md R169). -/
def Sys2Proof.Certificates.crcBit (r : BitVec 16) : BitVec 16 :=
  (r <<< 1) ^^^ (if r.getLsbD 15 then 0x1021#16 else 0)

/-- crc_step is eight steps of the bitwise CRC with polynomial 0x1021 (40_checksum.md R169). -/
def Obligations.CrcStepIsBitwisePolynomial : Prop :=
  ∀ (acc : BitVec 16) (b : Byte), crcStep acc b = crcBit^[8] (acc ^^^ (b.setWidth 16 <<< 8))

/-- The laws of the checksum functions (40_checksum.md R168 (a) to (d)). -/
def Obligations.ChecksumLaws : Prop :=
  (∀ (seed : BitVec 16) (m : Bool) (s : List Byte),
    ckVerify seed m s (ckBytes m (ckRange seed m s)) = true) ∧
  (∀ seed : BitVec 16, ckRange seed true [] = seed ∧ ckRange seed false [] = 0) ∧
  (∀ (seed : BitVec 16) (m : Bool) (s t : List Byte),
    ckRange seed m (s ++ t) = t.foldl (ckStep m) (ckRange seed m s)) ∧
  (∀ (seed : BitVec 16) (s : List Byte),
    (ckRange seed false s).toNat = (s.map BitVec.toNat).sum % 256)

/-- Two inputs that differ in one bit of one byte have different checksums, in both modes
(40_checksum.md R175). -/
def Obligations.SingleBitFlipDetected : Prop :=
  ∀ (seed : BitVec 16) (m : Bool) (pre post : List Byte) (b : Byte) (k : Nat), k < 8 →
    ckRange seed m (pre ++ (b ^^^ (1#8 <<< k)) :: post) ≠ ckRange seed m (pre ++ b :: post)

/-- The transmitted bytes (41_frame_encode.md R193): pads, header (its length field the low 16 bits of
the total length), payload, checksum over header and payload, pads, and the whole length. -/
def Obligations.TransmittedBytesLayout : Prop :=
  ∀ (seed : BitVec 16) (lead trail : Nat) (a8 : Byte) (q : BitVec 2) (m : Bool) (p : List Byte),
    let total := 5 + p.length + (if m then 2 else 1)
    ∃ hdr : List Byte,
      hdr.map BitVec.toNat =
        [0x53, a8.toNat % 2 ^ 7, total % 256, total / 256 % 256, q.toNat + (if m then 4 else 0)] ∧
      txBytes seed lead trail a8 q m p =
        List.replicate lead 0xFF#8 ++ (hdr ++ p ++ ckBytes m (ckRange seed m (hdr ++ p)))
          ++ List.replicate trail 0xFF#8 ∧
      (txBytes seed lead trail a8 q m p).length = lead + total + trail

/-! ### The registers -/

/-- What an 8-byte read at each legal offset answers; nothing else changes (20_memory.md R92,
10_state.md R51, R54 to R57, R59). STATUS shows PH and RES by the numbers of R38 and R371. -/
def Obligations.RegisterReadMap : Prop :=
  ∀ (s : State) (off : Nat) (rest : List Event), s.agenda = .read off 8 :: rest →
    off % 8 = 0 → off < 0x100 →
    step s = .next { s with agenda := rest, bus := .data (BitVec.ofNat 64 (
      if off = 0x00 then s.lastcmd.toNat
      else if off = 0x08 then s.busy.toNat + s.linkOpen.toNat * 2 + s.txvalid.toNat * 4 + s.rxvalid.toNat * 8
        + phaseNumber s.ph * 2 ^ 4 + resultNumber s.res * 2 ^ 8 + s.cmdovr.toNat * 2 ^ 16
        + s.wrerr.toNat * 2 ^ 17 + s.linkerr.toNat * 2 ^ 18
      else if off = 0x10 then s.result.toNat
      else if off = 0x18 then s.now.toNat
      else if off = 0x20 then s.cfg.lead.toNat
      else if off = 0x28 then s.cfg.trail.toNat
      else if off = 0x30 then s.cfg.rdTimeout.toNat
      else if off = 0x38 then s.cfg.postRxDelay.toNat
      else if off = 0x40 then s.cfg.idleThresh.toNat
      else if off = 0x48 then s.cfg.station.toNat + s.cfg.listenAll.toNat * 2 ^ 7
        + s.cfg.flyBy.toNat * 2 ^ 8 + s.cfg.crcMode.toNat * 2 ^ 9
      else if off = 0x50 then s.cfg.maxRetry.toNat
      else if off = 0x58 then s.cnt.crcErr.toNat
      else if off = 0x60 then s.cnt.timeout.toNat
      else if off = 0x68 then s.cnt.flyByErr.toNat
      else if off = 0x70 then s.rxlen.toNat + s.rxaddr.toNat * 2 ^ 16 + s.rxctrl.toNat * 2 ^ 24
        + s.rxflen.toNat * 2 ^ 32
      else if off = 0x78 then s.rxts.toNat
      else if off = 0x80 then s.acc.toNat + s.mode.toNat * 2 ^ 16
      else 0)) }

/-- What an 8-byte write at each legal offset but CMD's does (20_memory.md R93, R96). -/
def Obligations.RegisterWriteMap : Prop :=
  ∀ (s : State) (off : Nat) (v : Word) (rest : List Event), s.agenda = .write off 8 v :: rest →
    off % 8 = 0 → off < 0x100 → off ≠ 0 →
    step s = .next { (
      let refusedWrite : State := { s with wrerr := true }
      let link (c : CfgRegs) : State :=
        if s.linkOpen = true ∨ s.busy = true then refusedWrite else { s with cfg := c }
      let idle (c : CfgRegs) : State := if s.busy = true then refusedWrite else { s with cfg := c }
      if off = 0x08 then { s with
        cmdovr := if v.getLsbD 16 then false else s.cmdovr
        wrerr := if v.getLsbD 17 then false else s.wrerr
        linkerr := if v.getLsbD 18 then false else s.linkerr }
      else if off = 0x20 then link { s.cfg with lead := BitVec.ofNat 8 v.toNat }
      else if off = 0x28 then link { s.cfg with trail := BitVec.ofNat 8 v.toNat }
      else if off = 0x30 then link { s.cfg with rdTimeout := BitVec.ofNat 32 v.toNat }
      else if off = 0x38 then link { s.cfg with postRxDelay := BitVec.ofNat 32 v.toNat }
      else if off = 0x40 then link { s.cfg with idleThresh := BitVec.ofNat 32 v.toNat }
      else if off = 0x48 then idle { s.cfg with
        station := BitVec.ofNat 7 v.toNat
        listenAll := v.getLsbD 7
        flyBy := v.getLsbD 8
        crcMode := v.getLsbD 9 }
      else if off = 0x50 then idle { s.cfg with maxRetry := BitVec.ofNat 8 v.toNat }
      else if off = 0x58 then { s with cnt := { s.cnt with crcErr := 0 } }
      else if off = 0x60 then { s with cnt := { s.cnt with timeout := 0 } }
      else if off = 0x68 then { s with cnt := { s.cnt with flyByErr := 0 } }
      else refusedWrite) with agenda := rest, bus := .done }

/-- Any access but 8 bytes at a multiple of 8 below 0x100 is a bus error: HOST is told, and nothing of
OFB changes, not even WRERR (20_memory.md R91). -/
def Obligations.IllegalAccessIsBusError : Prop :=
  ∀ (s : State) (off width : Nat) (v : Word) (rest : List Event),
    s.agenda = .write off width v :: rest ∨ s.agenda = .read off width :: rest →
    ¬(width = 8 ∧ off % 8 = 0 ∧ off < 0x100) →
    step s = .next { s with agenda := rest, bus := .error }

/-! ### The environment -/

/-- A hard I/O error on an open link (45_link_and_access.md R349); on a closed one no step. -/
def Obligations.LineFaultClosesAndEndsCommand : Prop :=
  ∀ (s : State) (rest : List Event), s.agenda = .lineFault :: rest →
    (s.busy = true ↔ s.ph ≠ .idle) →
    step s = .next (
      let s1 : State := { s with agenda := rest }
      let s2 : State := { s1 with linkOpen := false, linkerr := true, rxfifo := [] }
      if s.linkOpen = false then s1
      else if s.busy = false then s2
      else if s.ph = .txWait ∨ s.ph = .txShift then ends .ioErr s.txpos s2
      else if s.ph = .idleWt then ends .ioErr s.disc.toNat s2
      else ends .ioErr 0 { s2 with rxts := s.now })

/-- A byte arrives (20_memory.md R101) and time passes (10_state.md R32), under the premise on NOW. -/
def Obligations.ArrivalsAndTicks : Prop :=
  (∀ (s : State) (b : Byte) (rest : List Event), s.agenda = .rxArrive b :: rest →
    step s = .next { s with
      agenda := rest
      rxfifo := if s.linkOpen = true then s.rxfifo ++ [b] else s.rxfifo }) ∧
  (∀ (s : State) (d : Nat) (rest : List Event), s.agenda = .tick d :: rest → 1 ≤ d →
    s.now.toNat + d < 2 ^ 64 - 2 ^ 33 →
    step s = .next { s with agenda := rest, now := BitVec.ofNat 64 (s.now.toNat + d) })

/-- The reset values of 10_state.md R66, at reset and after the external reset of
70_reset_and_hazards.md R420 from any state; the parameters are kept. -/
def Obligations.ResetValues : Prop :=
  ∀ t : State,
    (t = State.reset ∨ ∃ (s : State) (rest : List Event), s.agenda = .reset :: rest ∧
      s.par = Config.params ∧ step s = .next t) →
    t.par = Config.params ∧ t.now = 0 ∧ t.acc = 0 ∧ t.mode = false ∧ t.txpay.length = 0 ∧
    t.txvalid = false ∧ t.txbuf.length = 0 ∧ t.txpos = 0 ∧ t.rxfifo = [] ∧ t.rxbuf.length = 0 ∧
    t.rxlen = 0 ∧ t.rxaddr = 0 ∧ t.rxctrl = 0 ∧ t.rxflen = 0 ∧ t.rxvalid = false ∧
    t.fb = ⟨0, 0, 0, false, false⟩ ∧ t.rxts = 0 ∧ t.dl = 0 ∧ t.t0 = 0 ∧ t.disc = 0 ∧ t.ph = .idle ∧
    t.busy = false ∧ t.linkOpen = false ∧ t.res = .ok ∧ t.result = 0 ∧ t.lastcmd = 0 ∧
    t.cmdovr = false ∧ t.wrerr = false ∧ t.linkerr = false ∧
    t.cfg = ⟨0, 0, 0, 0, 0, 0, true, false, true, 0⟩ ∧ t.cnt = ⟨0, 0, 0⟩ ∧
    t.slaves = List.replicate Config.params.nslaves ⟨0, true, false, 0, 0, 255, 0, 0⟩ ∧ t.txline = []

/-! ### The invariant and the whole machine -/

/-- The invariants of 10_state.md R67 hold at reset, for the open parameters at any value R8 allows. -/
def Obligations.ResetKeepsInv : Prop := State.reset.Inv

/-- Every turn of every agent keeps the invariants of 10_state.md R67, from every state that has them. -/
def Obligations.StepKeepsInv : Prop := ∀ s t : State, s.Inv → step s = .next t → t.Inv

/-- From a state with the invariants no turn is refused, and the only fault is a Tick that leaves the
premise of 10_state.md R32. The fault is the model's choice (log 5). -/
def Obligations.StepStopsOnlyBeyondTime : Prop :=
  ∀ s : State, s.Inv → (∃ t, step s = .next t) ∨
    ∃ d, nextTurn s = .tick d ∧ 1 ≤ d ∧ 2 ^ 64 - 2 ^ 33 ≤ s.now.toNat + d ∧
      step s = .fault .timeBeyondPremise

/-- The turnaround law (43_timer.md R272): a turn that changes TXLINE, other than reset, appends one
byte, the next of the retained frame, and does so only when NOW >= RXTS + POSTRXDELAY. -/
def Obligations.NothingSentBeforeTurnaround : Prop :=
  ∀ s t : State, s.Inv → step s = .next t → nextTurn s ≠ .reset → t.txline ≠ s.txline →
    (∃ b, s.txbuf[s.txpos]? = some b ∧ t.txline = s.txline ++ [b]) ∧ s.txvalid = true ∧
    s.ph = .txShift ∧ s.rxts.toNat + s.cfg.postRxDelay.toNat ≤ s.now.toNat

/-- While a command runs no turn but reset changes the configuration, and while the link is open none
changes the link configuration (10_state.md R46 to R52, 20_memory.md R105 (d)). -/
def Obligations.ConfigurationIsLocked : Prop :=
  ∀ s t : State, step s = .next t → nextTurn s ≠ .reset →
    (s.busy = true → t.cfg = s.cfg) ∧
    (s.linkOpen = true → t.cfg.lead = s.cfg.lead ∧ t.cfg.trail = s.cfg.trail ∧
      t.cfg.rdTimeout = s.cfg.rdTimeout ∧ t.cfg.postRxDelay = s.cfg.postRxDelay ∧
      t.cfg.idleThresh = s.cfg.idleThresh)

/-- RXTS is written with NOW, and only when an RDFRAME completes or is ended by a fault, or an IDLEWAIT
or RXFLUSH that discarded bytes completes (43_timer.md R275); reset aside. -/
def Obligations.RxtsWrittenOnlyOnReception : Prop :=
  ∀ s t : State, step s = .next t → nextTurn s ≠ .reset → t.rxts ≠ s.rxts →
    t.rxts = s.now ∧
    ((nextTurn s = .seq ∧ s.ph.receiving = true ∧ s.busy = true ∧ t.busy = false ∧
        (t.res = .ok ∨ t.res = .timeout ∨ t.res = .crcErr ∨ t.res = .overflow ∨ t.res = .badLen)) ∨
     (nextTurn s = .lineFault ∧ s.ph.receiving = true ∧ s.busy = true ∧ t.res = .ioErr) ∨
     (nextTurn s = .seq ∧ s.ph = .idleWt ∧ s.busy = true ∧ s.disc ≠ 0 ∧ t.res = .ok) ∨
     (∃ w a b, nextTurn s = .write 0 8 w ∧ decodeCommand w = .ok (.rxflush a b) ∧ s.rxfifo ≠ [] ∧
        s.busy = false ∧ t.res = .ok))

/-- NOW moves only by Tick, forward (43_timer.md R277, 10_state.md R32); reset aside. -/
def Obligations.OnlyTickMovesTime : Prop :=
  ∀ s t : State, step s = .next t → nextTurn s ≠ .reset → t.now ≠ s.now →
    s.now < t.now ∧ ∃ d, nextTurn s = .tick d ∧ t.now.toNat = s.now.toNat + d

/-- ACC and MODE are written only by CKINIT and CKFOLD (10_state.md R33, 40_checksum.md R174); reset
aside. -/
def Obligations.OnlyChecksumCommandsWriteEngine : Prop :=
  ∀ s t : State, step s = .next t → nextTurn s ≠ .reset → (t.acc ≠ s.acc ∨ t.mode ≠ s.mode) →
    s.busy = false ∧ ∃ w a b, nextTurn s = .write 0 8 w ∧
      (decodeCommand w = .ok (.ckinit a b) ∨ decodeCommand w = .ok (.ckfold a b))

/-- The frame codec does not read the host-visible engine (40_checksum.md R174): a turn of SEQ, and a
WRFRAME, RESEND, RDFRAME or IDLEWAIT, do the same with any other ACC and MODE, which they keep. -/
def Obligations.CodecIgnoresEngine : Prop :=
  ∀ (s : State) (acc : BitVec 16) (mode : Bool),
    (∀ t, seqTurn s = .next t →
      seqTurn { s with acc := acc, mode := mode } = .next { t with acc := acc, mode := mode }) ∧
    (∀ (a : BitVec 8) (b : BitVec 16) (i : Instr),
      i = .wrframe a b ∨ i = .resend a b ∨ i = .rdframe a b ∨ i = .idlewait a b →
      ∃ t, exec i s = .next t ∧
        exec i { s with acc := acc, mode := mode } = .next { t with acc := acc, mode := mode })

/-- Sticky flags (10_state.md R42): what sets each, and that only a write to STATUS or reset clears
one. -/
def Obligations.StickyFlagsSetAndCleared : Prop :=
  ∀ s t : State, step s = .next t → nextTurn s ≠ .reset →
    (s.cmdovr = false → t.cmdovr = true → s.busy = true ∧ ∃ w, nextTurn s = .write 0 8 w) ∧
    (s.wrerr = false → t.wrerr = true → ∃ off v, nextTurn s = .write off 8 v ∧ off ≠ 0) ∧
    (s.linkerr = false → t.linkerr = true → nextTurn s = .lineFault ∧ s.linkOpen = true) ∧
    (s.cmdovr = true → t.cmdovr = false → ∃ v, nextTurn s = .write 8 8 v ∧ v.getLsbD 16 = true) ∧
    (s.wrerr = true → t.wrerr = false → ∃ v, nextTurn s = .write 8 8 v ∧ v.getLsbD 17 = true) ∧
    (s.linkerr = true → t.linkerr = false → ∃ v, nextTurn s = .write 8 8 v ∧ v.getLsbD 18 = true)

/-- An RDFRAME times out only when RXFIFO is empty at or after its deadline (43_timer.md R273 (a)), and
SEQ's turn in any of the four receive phases with RXFIFO empty at or after the deadline does complete it
with TIMEOUT, counted, at this very time, and does nothing else (42_frame_decode.md R242, R241). -/
def Obligations.TimeoutNeverEarly : Prop :=
  (∀ s t : State, step s = .next t → t.res = .timeout → s.res ≠ .timeout →
    nextTurn s = .seq ∧ s.ph.receiving = true ∧ s.rxfifo = [] ∧ s.dl ≤ s.now ∧
    t.cnt.timeout = s.cnt.timeout + 1 ∧ t.rxts = s.now ∧ t.rxvalid = false) ∧
  (∀ (s : State) (rest : List Event), s.agenda = .seq :: rest → s.busy = true →
    (s.ph = .rxScan ∨ s.ph = .rxHdr ∨ s.ph = .rxBody ∨ s.ph = .fbBody) →
    s.rxfifo = [] → s.dl.toNat ≤ s.now.toNat →
    step s = .next (rxEnds .timeout 0
      { s with agenda := rest, cnt := { s.cnt with timeout := s.cnt.timeout + 1 } }))

/-! ### Long commands, from issue to completion -/

/-- The transmit phases. TXWAIT's step (41_frame_encode.md R197) goes to TXSHIFT as soon as
NOW >= RXTS + POSTRXDELAY; from TXSHIFT (R198) as many turns of SEQ as bytes are left emit those bytes in
order, keep the retained frame, and complete with TXLEN; so from TXWAIT one turn more does. -/
def Obligations.TransmissionEmitsTheFrame : Prop :=
  (∀ (s : State) (rest : List Event), s.busy = true → s.ph = .txWait →
    s.rxts.toNat + s.cfg.postRxDelay.toNat ≤ s.now.toNat → s.agenda = .seq :: rest →
    step s = .next { s with agenda := rest, ph := .txShift }) ∧
  (∀ (s : State) (rest : List Event), s.busy = true → s.ph = .txShift → s.txpos < s.txbuf.length →
    s.agenda = List.replicate (s.txbuf.length - s.txpos) .seq ++ rest →
    runTurns (s.txbuf.length - s.txpos) s = .next (ends .ok s.txbuf.length
      { s with agenda := rest, txline := s.txline ++ s.txbuf.drop s.txpos, txpos := s.txbuf.length })) ∧
  (∀ (s : State) (rest : List Event), s.busy = true → s.ph = .txWait → s.txpos < s.txbuf.length →
    s.rxts.toNat + s.cfg.postRxDelay.toNat ≤ s.now.toNat →
    s.agenda = List.replicate (s.txbuf.length - s.txpos + 1) .seq ++ rest →
    runTurns (s.txbuf.length - s.txpos + 1) s = .next (ends .ok s.txbuf.length
      { s with agenda := rest, txline := s.txline ++ s.txbuf.drop s.txpos, txpos := s.txbuf.length }))

/-- The frame round trip (41_frame_encode.md R195): the encoder's bytes for an address up to 127, pads
included, after any bytes but the introducer (dropped by the scan, 42_frame_decode.md R231), waiting
before an RDFRAME that scans, give the payload, address, sequence and mode back, and leave the trailing
pads waiting. -/
def Obligations.FrameRoundTrip : Prop :=
  ∀ (s : State) (rest : List Event) (noise : List Byte) (lead trail : Nat) (a8 : Byte) (q : BitVec 2)
    (m : Bool) (p : List Byte),
    let turns := noise.length + lead + (5 + p.length + (if m then 2 else 1))
    s.busy = true → s.ph = .rxScan → 0x53#8 ∉ noise → a8.toNat ≤ 127 →
    (s.cfg.listenAll = true ∨ s.cfg.station.toNat = a8.toNat) →
    5 + p.length + (if m then 2 else 1) ≤ s.par.rxCap → s.par.rxCap ≤ 65535 →
    s.rxfifo = noise ++ txBytes s.par.crcSeed lead trail a8 q m p →
    s.agenda = List.replicate turns .seq ++ rest →
    ∃ t, runTurns turns s = .next t ∧
      t.res = .ok ∧ t.result = BitVec.ofNat 64 p.length ∧ t.busy = false ∧ t.ph = .idle ∧
      t.rxvalid = true ∧ t.rxlen = BitVec.ofNat 16 p.length ∧
      (∀ i < p.length, t.rxbuf[5 + i]? = p[i]?) ∧
      t.rxaddr = a8 ∧ t.rxctrl.extractLsb' 0 2 = q ∧ t.rxctrl.getLsbD 2 = m ∧
      t.rxts = s.now ∧ t.rxfifo = List.replicate trail 0xFF#8 ∧ t.cnt = s.cnt ∧ t.agenda = rest

/-- A byte of a frame for this station (42_frame_decode.md R235, R241): it is stored, and the last one
validates the frame, with its payload length and OK, or with CRCERR, which is counted. -/
def Obligations.BodyByteCollectsAndValidates : Prop :=
  ∀ (s : State) (b : Byte) (more : List Byte) (rest : List Event), s.Inv →
    s.agenda = .seq :: rest → s.ph = .rxBody → s.rxfifo = b :: more →
    step s = .next (
      let buf := s.rxbuf ++ [b]
      let m := s.rxctrl.getLsbD 2
      let ck := if m then 2 else 1
      let s1 : State := { s with agenda := rest, rxfifo := more, rxbuf := buf }
      let n := s.rxflen.toNat - 5 - ck
      if buf.length < s.rxflen.toNat then s1
      else if buf.drop (5 + n) = ckBytes m (ckRange s.par.crcSeed m (buf.take (5 + n))) then
        rxEnds .ok n { s1 with rxlen := BitVec.ofNat 16 n }
      else rxEnds .crcErr 0 { s1 with cnt := { s.cnt with crcErr := s.cnt.crcErr + 1 } })

/-- Fly-by (42_frame_decode.md R238, R239): after a foreign header, consuming the rest of its frame
byte by byte gives the verdict of ck_verify over the whole frame: CNT_FLYBYERR rises exactly when FLYBY
is set and the frame does not verify; then SEQ scans on and nothing else has changed but RXFIFO and the
fly-by registers. A frame too short for its checksum that has bytes left (R236: it was counted at its
header) is consumed by its declared length and not counted again. -/
def Obligations.FlyByVerdictIsCkVerify : Prop :=
  (∀ (s : State) (rest : List Event) (m : Bool) (len : BitVec 16) (header body more : List Byte),
    s.busy = true → s.ph = .fbBody → 5 + (if m then 2 else 1) ≤ len.toNat →
    header.length = 5 → 5 + body.length = len.toNat →
    s.fb = ⟨ckRange s.par.crcSeed m header, 5, len, m, false⟩ →
    s.rxfifo = body ++ more → s.agenda = List.replicate body.length .seq ++ rest →
    ∃ t, runTurns body.length s = .next t ∧
      t = { s with
        agenda := rest
        rxfifo := more
        ph := .rxScan
        fb := t.fb
        cnt := { s.cnt with flyByErr := s.cnt.flyByErr + (
          let frame := header ++ body
          let covered := len.toNat - (if m then 2 else 1)
          if s.cfg.flyBy = true ∧
            ckVerify s.par.crcSeed m (frame.take covered) (frame.drop covered) = false then 1 else 0) } }) ∧
  (∀ (s : State) (rest : List Event) (m : Bool) (len : BitVec 16) (header body more : List Byte),
    s.busy = true → s.ph = .fbBody → 5 < len.toNat → len.toNat < 5 + (if m then 2 else 1) →
    header.length = 5 → 5 + body.length = len.toNat →
    s.fb = ⟨ckRange s.par.crcSeed m header, 5, len, m, false⟩ →
    s.rxfifo = body ++ more → s.agenda = List.replicate body.length .seq ++ rest →
    ∃ t, runTurns body.length s = .next t ∧
      t = { s with agenda := rest, rxfifo := more, ph := .rxScan, fb := t.fb })

/-- IDLEWAIT (42_frame_decode.md R246): SEQ discards what waits, counting it and restarting the quiet
period, and once the line has been quiet for IDLETHRESH completes with the count. Before that it has no
enabled step; that such a turn changes nothing is the model's choice (log 3). -/
def Obligations.IdleWaitDiscardsThenCompletes : Prop :=
  (∀ (s : State) (rest : List Event), s.busy = true → s.ph = .idleWt → s.rxfifo ≠ [] →
    s.agenda = List.replicate s.rxfifo.length .seq ++ rest →
    runTurns s.rxfifo.length s = .next { s with
      agenda := rest, rxfifo := [], disc := s.disc + BitVec.ofNat 64 s.rxfifo.length, t0 := s.now }) ∧
  (∀ (s : State) (rest : List Event), s.busy = true → s.ph = .idleWt → s.rxfifo = [] →
    s.t0 ≤ s.now → s.agenda = .seq :: rest →
    step s = .next (if s.cfg.idleThresh.toNat ≤ s.now.toNat - s.t0.toNat then
      ends .ok s.disc.toNat { s with agenda := rest, rxts := if s.disc = 0 then s.rxts else s.now }
      else { s with agenda := rest }))

/-! ### The slave laws -/

/-- Sequence cycling (44_slave.md R316 (a)): from the resync value k acknowledgements in a row give 1, 2,
3, 1, 2, 3, ...; from any value never 0. -/
def Obligations.SequenceCycles : Prop :=
  ∀ (s : State) (a : BitVec 8) (S : Slot) (k : Nat), s.slaves[a.toNat]? = some S → 1 ≤ k →
    ∃ t S', execAll (List.replicate k (.slack a 0)) s = .next t ∧ t.slaves[a.toNat]? = some S' ∧
      S'.txseq ≠ 0 ∧ S'.retry = 0 ∧ (S.txseq = 0 → S'.txseq.toNat = (k - 1) % 3 + 1)

/-- The retry threshold (44_slave.md R316 (b)): after k naks in a row from RETRY = 0 the slot is Online
exactly while k < N, and exactly the N-th reports WENT_OFFLINE (RESULT bit 1). -/
def Obligations.RetryThresholdIsExact : Prop :=
  ∀ (s : State) (a : BitVec 8) (S : Slot) (naks : List Instr),
    s.slaves[a.toNat]? = some S → S.retry = 0 → 1 ≤ s.cfg.maxRetry.toNat → naks ≠ [] →
    (∀ i ∈ naks, i = .slnak a 0 ∨ i = .slnakr a 0) →
    ∃ t S', execAll naks s = .next t ∧ t.slaves[a.toNat]? = some S' ∧
      S'.retry.toNat = min naks.length 255 ∧
      (S'.online s.cfg.maxRetry = true ↔ naks.length < s.cfg.maxRetry.toNat) ∧
      (t.result.getLsbD 1 = true ↔ naks.length = s.cfg.maxRetry.toNat)

/-- Online comes only by SLACK, Offline only by SLNAK, SLNAKR, SLCFG (44_slave.md R316 (d)), while
MAXRETRY is not written and there is no reset. -/
def Obligations.ReachabilityChangesOnlyBySlaveCommands : Prop :=
  ∀ (s t : State) (n : Nat) (S S' : Slot), step s = .next t → nextTurn s ≠ .reset →
    t.cfg.maxRetry = s.cfg.maxRetry → s.slaves[n]? = some S → t.slaves[n]? = some S' →
    S'.online t.cfg.maxRetry ≠ S.online s.cfg.maxRetry →
    s.busy = false ∧ ∃ w a b, nextTurn s = .write 0 8 w ∧ a.toNat = n ∧
      ((S'.online t.cfg.maxRetry = true ∧ decodeCommand w = .ok (.slack a b)) ∨
       (S'.online t.cfg.maxRetry = false ∧
        (decodeCommand w = .ok (.slnak a b) ∨ decodeCommand w = .ok (.slnakr a b) ∨
         decodeCommand w = .ok (.slcfg a b))))
end

