-- ==== Sys2Proof/Laws/Checksum.lean ====
section
/-! SUPPORT. The checksum functions: lengths, sums, and folding in two parts. -/

namespace Sys2Proof.Machine

@[simp] theorem ckBytes_length (m : Bool) (v : BitVec 16) : (ckBytes m v).length = ckSize m := by
  cases m <;> rfl

theorem ckSize_pos (m : Bool) : 1 ≤ ckSize m := by cases m <;> decide

theorem ckSize_le (m : Bool) : ckSize m ≤ 2 := by cases m <;> decide

/-- A step of the sum, as numbers (40_checksum.md R163). -/
theorem sumStep_toNat (acc : BitVec 16) (b : Byte) :
    (sumStep acc b).toNat = (acc.toNat + b.toNat) % 256 := by
  rw [sumStep, BitVec.toNat_ofNat]
  omega

/-- The range of a sequence in two parts. -/
theorem ckRange_append (seed : BitVec 16) (m : Bool) (l r : List Byte) :
    ckRange seed m (l ++ r) = r.foldl (ckStep m) (ckRange seed m l) := by
  rw [ckRange, ckRange, List.foldl_append]

/-- The header is five bytes (41_frame_encode.md R193). -/
@[simp] theorem frameHeader_length (a8 : Byte) (q : BitVec 2) (m : Bool) (n : Nat) :
    (frameHeader a8 q m n).length = 5 := rfl

/-- The whole length of what WRFRAME stores. -/
theorem txBytes_length (seed : BitVec 16) (lead trail : Nat) (a8 : Byte) (q : BitVec 2) (m : Bool)
    (p : List Byte) :
    (txBytes seed lead trail a8 q m p).length = lead + (5 + p.length + ckSize m) + trail := by
  simp [txBytes, frameBytes]
  omega

end Sys2Proof.Machine
end

