-- ==== Sys2Proof/Laws/Operands.lean ====
section
/-! SUPPORT. What each operand form accepts, as arithmetic on a and b, and what it answers. -/

namespace Sys2Proof.Machine

theorem upper15_zero (b : BitVec 16) : b.extractLsb' 1 15 = 0#15 ↔ b.toNat ≤ 1 := by
  have := b.isLt
  rw [← BitVec.toNat_inj, BitVec.extractLsb'_toNat, Nat.shiftRight_eq_div_pow, BitVec.toNat_ofNat]
  omega

theorem upper14_zero (b : BitVec 16) : b.extractLsb' 2 14 = 0#14 ↔ b.toNat ≤ 3 := by
  have := b.isLt
  rw [← BitVec.toNat_inj, BitVec.extractLsb'_toNat, Nat.shiftRight_eq_div_pow, BitVec.toNat_ofNat]
  omega

theorem upper7_zero (b : BitVec 16) : b.extractLsb' 9 7 = 0#7 ↔ b.toNat < 2 ^ 9 := by
  have := b.isLt
  rw [← BitVec.toNat_inj, BitVec.extractLsb'_toNat, Nat.shiftRight_eq_div_pow, BitVec.toNat_ofNat]
  omega

/-- Taking the low n bits is reading the number modulo 2^n. -/
theorem lowBits_eq {w : Nat} (n : Nat) (v : BitVec w) :
    v.extractLsb' 0 n = BitVec.ofNat n v.toNat := by
  apply BitVec.eq_of_toNat_eq
  rw [BitVec.extractLsb'_toNat, BitVec.toNat_ofNat, Nat.shiftRight_zero]

theorem bit0_of_le_one (b : BitVec 16) (h : b.toNat ≤ 1) : b.getLsbD 0 = decide (b = 1#16) := by
  have : b = 0#16 ∨ b = 1#16 := by
    rcases Nat.le_one_iff_eq_zero_or_eq_one.1 h with h0 | h1
    · exact .inl (BitVec.eq_of_toNat_eq h0)
    · exact .inr (BitVec.eq_of_toNat_eq h1)
  rcases this with rfl | rfl <;> rfl

/-! ### Running on operands -/

@[simp] theorem withOperands_some {α : Type} (x : α) (s : State) (k : α → State) :
    withOperands (some x) s k = k x := rfl

@[simp] theorem withOperands_none {α : Type} (s : State) (k : α → State) :
    withOperands none s k = s.refuse .badArg := rfl

/-- Everything `withOperands` can do. -/
theorem withOperands_cases {α : Type} (o : Option α) (s : State) (k : α → State) :
    (∃ x, o = some x ∧ withOperands o s k = k x) ∨
    (o = none ∧ withOperands o s k = s.refuse .badArg) := by
  cases o with
  | some x => exact .inl ⟨x, rfl, rfl⟩
  | none => exact .inr ⟨rfl, rfl⟩

/-- Everything `whenOpen` can do. -/
theorem whenOpen_cases (s : State) (k : State → State) :
    (s.linkOpen = true ∧ whenOpen s k = k s) ∨
    (s.linkOpen = false ∧ whenOpen s k = s.refuse .badState) := by
  unfold whenOpen
  cases s.linkOpen <;> simp

/-! ### The forms -/

theorem Operands.empty_eq (a : BitVec 8) (b : BitVec 16) :
    Operands.empty a b = if a = 0 ∧ b = 0 then some () else none := rfl

theorem Operands.byte_eq (a : BitVec 8) (b : BitVec 16) :
    Operands.byte a b = if b = 0 then some a else none := rfl

theorem Operands.half_eq (a : BitVec 8) (b : BitVec 16) :
    Operands.half a b = if a = 0 then some b else none := rfl

theorem Operands.mode_eq (a : BitVec 8) (b : BitVec 16) :
    Operands.mode a b = if a = 0 ∧ b.toNat ≤ 1 then some (decide (b = 1)) else none := by
  unfold Operands.mode
  simp only [upper15_zero]
  by_cases h : b.toNat ≤ 1
  · rw [bit0_of_le_one b h]
    simp [h]
  · simp [h]

theorem Operands.frame_eq (a : BitVec 8) (b : BitVec 16) :
    Operands.frame a b = if b.toNat ≤ 3 then some (a, BitVec.ofNat 2 b.toNat) else none := by
  simp only [Operands.frame, upper14_zero, lowBits_eq]

/-- The slot form reads the table. -/
theorem Operands.slot_of_lt (a : BitVec 8) (s : State) (h : a.toNat < s.slaves.length) :
    Operands.slot a s = some s.slaves[a.toNat] := List.getElem?_eq_getElem h

theorem Operands.slot_of_le (a : BitVec 8) (s : State) (h : s.slaves.length ≤ a.toNat) :
    Operands.slot a s = none := List.getElem?_eq_none h

theorem Operands.slotOnly_eq (a : BitVec 8) (b : BitVec 16) (s : State) :
    Operands.slotOnly a b s = if b = 0 then s.slaves[a.toNat]? else none := rfl

theorem Operands.slotFlag_eq (a : BitVec 8) (b : BitVec 16) (s : State) :
    Operands.slotFlag a b s =
      if b.toNat ≤ 1 then s.slaves[a.toNat]?.map (·, b.getLsbD 0) else none := by
  simp only [Operands.slotFlag, upper15_zero, Operands.slot]

theorem Operands.slotPair_eq (a : BitVec 8) (b : BitVec 16) (s : State) :
    Operands.slotPair a b s =
      if b.toNat ≤ 3 then s.slaves[a.toNat]?.map (·, BitVec.ofNat 2 b.toNat) else none := by
  simp only [Operands.slotPair, upper14_zero, lowBits_eq, Operands.slot]

theorem Operands.slotConfig_eq (a : BitVec 8) (b : BitVec 16) (s : State) :
    Operands.slotConfig a b s =
      if b.toNat < 2 ^ 9 then s.slaves[a.toNat]?.map fun _ =>
        { Slot.reset with addr := BitVec.ofNat 7 b.toNat, undef := b.getLsbD 7, en := b.getLsbD 8 }
      else none := by
  simp only [Operands.slotConfig, upper7_zero, lowBits_eq, Operands.slot]

end Sys2Proof.Machine
end

