-- ==== Sys2Proof/Laws/State.lean ====
section
/-! SUPPORT. What each named update does to each field of the state, so that no later proof unfolds a
record update. -/

namespace Sys2Proof.Machine

variable (s : State)

/-! ### raise -/

@[simp] theorem State.raise_par (c : ResultCode) (v : Word) : (s.raise c v).par = s.par := rfl
@[simp] theorem State.raise_now (c : ResultCode) (v : Word) : (s.raise c v).now = s.now := rfl
@[simp] theorem State.raise_acc (c : ResultCode) (v : Word) : (s.raise c v).acc = s.acc := rfl
@[simp] theorem State.raise_mode (c : ResultCode) (v : Word) : (s.raise c v).mode = s.mode := rfl
@[simp] theorem State.raise_txpay (c : ResultCode) (v : Word) : (s.raise c v).txpay = s.txpay := rfl
@[simp] theorem State.raise_txbuf (c : ResultCode) (v : Word) : (s.raise c v).txbuf = s.txbuf := rfl
@[simp] theorem State.raise_txvalid (c : ResultCode) (v : Word) : (s.raise c v).txvalid = s.txvalid := rfl
@[simp] theorem State.raise_txpos (c : ResultCode) (v : Word) : (s.raise c v).txpos = s.txpos := rfl
@[simp] theorem State.raise_rxfifo (c : ResultCode) (v : Word) : (s.raise c v).rxfifo = s.rxfifo := rfl
@[simp] theorem State.raise_rxbuf (c : ResultCode) (v : Word) : (s.raise c v).rxbuf = s.rxbuf := rfl
@[simp] theorem State.raise_rxlen (c : ResultCode) (v : Word) : (s.raise c v).rxlen = s.rxlen := rfl
@[simp] theorem State.raise_rxaddr (c : ResultCode) (v : Word) : (s.raise c v).rxaddr = s.rxaddr := rfl
@[simp] theorem State.raise_rxctrl (c : ResultCode) (v : Word) : (s.raise c v).rxctrl = s.rxctrl := rfl
@[simp] theorem State.raise_rxflen (c : ResultCode) (v : Word) : (s.raise c v).rxflen = s.rxflen := rfl
@[simp] theorem State.raise_rxvalid (c : ResultCode) (v : Word) : (s.raise c v).rxvalid = s.rxvalid := rfl
@[simp] theorem State.raise_fb (c : ResultCode) (v : Word) : (s.raise c v).fb = s.fb := rfl
@[simp] theorem State.raise_rxts (c : ResultCode) (v : Word) : (s.raise c v).rxts = s.rxts := rfl
@[simp] theorem State.raise_dl (c : ResultCode) (v : Word) : (s.raise c v).dl = s.dl := rfl
@[simp] theorem State.raise_t0 (c : ResultCode) (v : Word) : (s.raise c v).t0 = s.t0 := rfl
@[simp] theorem State.raise_disc (c : ResultCode) (v : Word) : (s.raise c v).disc = s.disc := rfl
@[simp] theorem State.raise_ph (c : ResultCode) (v : Word) : (s.raise c v).ph = .idle := rfl
@[simp] theorem State.raise_busy (c : ResultCode) (v : Word) : (s.raise c v).busy = false := rfl
@[simp] theorem State.raise_linkOpen (c : ResultCode) (v : Word) : (s.raise c v).linkOpen = s.linkOpen := rfl
@[simp] theorem State.raise_res (c : ResultCode) (v : Word) : (s.raise c v).res = c := rfl
@[simp] theorem State.raise_result (c : ResultCode) (v : Word) : (s.raise c v).result = v := rfl
@[simp] theorem State.raise_lastcmd (c : ResultCode) (v : Word) : (s.raise c v).lastcmd = s.lastcmd := rfl
@[simp] theorem State.raise_cmdovr (c : ResultCode) (v : Word) : (s.raise c v).cmdovr = s.cmdovr := rfl
@[simp] theorem State.raise_wrerr (c : ResultCode) (v : Word) : (s.raise c v).wrerr = s.wrerr := rfl
@[simp] theorem State.raise_linkerr (c : ResultCode) (v : Word) : (s.raise c v).linkerr = s.linkerr := rfl
@[simp] theorem State.raise_cfg (c : ResultCode) (v : Word) : (s.raise c v).cfg = s.cfg := rfl
@[simp] theorem State.raise_cnt (c : ResultCode) (v : Word) : (s.raise c v).cnt = s.cnt := rfl
@[simp] theorem State.raise_slaves (c : ResultCode) (v : Word) : (s.raise c v).slaves = s.slaves := rfl
@[simp] theorem State.raise_txline (c : ResultCode) (v : Word) : (s.raise c v).txline = s.txline := rfl
@[simp] theorem State.raise_bus (c : ResultCode) (v : Word) : (s.raise c v).bus = s.bus := rfl
@[simp] theorem State.raise_agenda (c : ResultCode) (v : Word) : (s.raise c v).agenda = s.agenda := rfl
@[simp] theorem State.raise_turn (c : ResultCode) (v : Word) : (s.raise c v).turn = s.turn := rfl

/-! ### done -/

@[simp] theorem State.done_par (v : Word) : (s.done v).par = s.par := rfl
@[simp] theorem State.done_now (v : Word) : (s.done v).now = s.now := rfl
@[simp] theorem State.done_acc (v : Word) : (s.done v).acc = s.acc := rfl
@[simp] theorem State.done_mode (v : Word) : (s.done v).mode = s.mode := rfl
@[simp] theorem State.done_txpay (v : Word) : (s.done v).txpay = s.txpay := rfl
@[simp] theorem State.done_txbuf (v : Word) : (s.done v).txbuf = s.txbuf := rfl
@[simp] theorem State.done_txvalid (v : Word) : (s.done v).txvalid = s.txvalid := rfl
@[simp] theorem State.done_txpos (v : Word) : (s.done v).txpos = s.txpos := rfl
@[simp] theorem State.done_rxfifo (v : Word) : (s.done v).rxfifo = s.rxfifo := rfl
@[simp] theorem State.done_rxbuf (v : Word) : (s.done v).rxbuf = s.rxbuf := rfl
@[simp] theorem State.done_rxlen (v : Word) : (s.done v).rxlen = s.rxlen := rfl
@[simp] theorem State.done_rxaddr (v : Word) : (s.done v).rxaddr = s.rxaddr := rfl
@[simp] theorem State.done_rxctrl (v : Word) : (s.done v).rxctrl = s.rxctrl := rfl
@[simp] theorem State.done_rxflen (v : Word) : (s.done v).rxflen = s.rxflen := rfl
@[simp] theorem State.done_rxvalid (v : Word) : (s.done v).rxvalid = s.rxvalid := rfl
@[simp] theorem State.done_fb (v : Word) : (s.done v).fb = s.fb := rfl
@[simp] theorem State.done_rxts (v : Word) : (s.done v).rxts = s.rxts := rfl
@[simp] theorem State.done_dl (v : Word) : (s.done v).dl = s.dl := rfl
@[simp] theorem State.done_t0 (v : Word) : (s.done v).t0 = s.t0 := rfl
@[simp] theorem State.done_disc (v : Word) : (s.done v).disc = s.disc := rfl
@[simp] theorem State.done_ph (v : Word) : (s.done v).ph = .idle := rfl
@[simp] theorem State.done_busy (v : Word) : (s.done v).busy = false := rfl
@[simp] theorem State.done_linkOpen (v : Word) : (s.done v).linkOpen = s.linkOpen := rfl
@[simp] theorem State.done_res (v : Word) : (s.done v).res = .ok := rfl
@[simp] theorem State.done_result (v : Word) : (s.done v).result = v := rfl
@[simp] theorem State.done_lastcmd (v : Word) : (s.done v).lastcmd = s.lastcmd := rfl
@[simp] theorem State.done_cmdovr (v : Word) : (s.done v).cmdovr = s.cmdovr := rfl
@[simp] theorem State.done_wrerr (v : Word) : (s.done v).wrerr = s.wrerr := rfl
@[simp] theorem State.done_linkerr (v : Word) : (s.done v).linkerr = s.linkerr := rfl
@[simp] theorem State.done_cfg (v : Word) : (s.done v).cfg = s.cfg := rfl
@[simp] theorem State.done_cnt (v : Word) : (s.done v).cnt = s.cnt := rfl
@[simp] theorem State.done_slaves (v : Word) : (s.done v).slaves = s.slaves := rfl
@[simp] theorem State.done_txline (v : Word) : (s.done v).txline = s.txline := rfl
@[simp] theorem State.done_bus (v : Word) : (s.done v).bus = s.bus := rfl
@[simp] theorem State.done_agenda (v : Word) : (s.done v).agenda = s.agenda := rfl
@[simp] theorem State.done_turn (v : Word) : (s.done v).turn = s.turn := rfl

/-! ### refuse -/

@[simp] theorem State.refuse_par (c : ResultCode) : (s.refuse c).par = s.par := rfl
@[simp] theorem State.refuse_now (c : ResultCode) : (s.refuse c).now = s.now := rfl
@[simp] theorem State.refuse_acc (c : ResultCode) : (s.refuse c).acc = s.acc := rfl
@[simp] theorem State.refuse_mode (c : ResultCode) : (s.refuse c).mode = s.mode := rfl
@[simp] theorem State.refuse_txpay (c : ResultCode) : (s.refuse c).txpay = s.txpay := rfl
@[simp] theorem State.refuse_txbuf (c : ResultCode) : (s.refuse c).txbuf = s.txbuf := rfl
@[simp] theorem State.refuse_txvalid (c : ResultCode) : (s.refuse c).txvalid = s.txvalid := rfl
@[simp] theorem State.refuse_txpos (c : ResultCode) : (s.refuse c).txpos = s.txpos := rfl
@[simp] theorem State.refuse_rxfifo (c : ResultCode) : (s.refuse c).rxfifo = s.rxfifo := rfl
@[simp] theorem State.refuse_rxbuf (c : ResultCode) : (s.refuse c).rxbuf = s.rxbuf := rfl
@[simp] theorem State.refuse_rxlen (c : ResultCode) : (s.refuse c).rxlen = s.rxlen := rfl
@[simp] theorem State.refuse_rxaddr (c : ResultCode) : (s.refuse c).rxaddr = s.rxaddr := rfl
@[simp] theorem State.refuse_rxctrl (c : ResultCode) : (s.refuse c).rxctrl = s.rxctrl := rfl
@[simp] theorem State.refuse_rxflen (c : ResultCode) : (s.refuse c).rxflen = s.rxflen := rfl
@[simp] theorem State.refuse_rxvalid (c : ResultCode) : (s.refuse c).rxvalid = s.rxvalid := rfl
@[simp] theorem State.refuse_fb (c : ResultCode) : (s.refuse c).fb = s.fb := rfl
@[simp] theorem State.refuse_rxts (c : ResultCode) : (s.refuse c).rxts = s.rxts := rfl
@[simp] theorem State.refuse_dl (c : ResultCode) : (s.refuse c).dl = s.dl := rfl
@[simp] theorem State.refuse_t0 (c : ResultCode) : (s.refuse c).t0 = s.t0 := rfl
@[simp] theorem State.refuse_disc (c : ResultCode) : (s.refuse c).disc = s.disc := rfl
@[simp] theorem State.refuse_ph (c : ResultCode) : (s.refuse c).ph = .idle := rfl
@[simp] theorem State.refuse_busy (c : ResultCode) : (s.refuse c).busy = false := rfl
@[simp] theorem State.refuse_linkOpen (c : ResultCode) : (s.refuse c).linkOpen = s.linkOpen := rfl
@[simp] theorem State.refuse_res (c : ResultCode) : (s.refuse c).res = c := rfl
@[simp] theorem State.refuse_result (c : ResultCode) : (s.refuse c).result = 0#64 := rfl
@[simp] theorem State.refuse_lastcmd (c : ResultCode) : (s.refuse c).lastcmd = s.lastcmd := rfl
@[simp] theorem State.refuse_cmdovr (c : ResultCode) : (s.refuse c).cmdovr = s.cmdovr := rfl
@[simp] theorem State.refuse_wrerr (c : ResultCode) : (s.refuse c).wrerr = s.wrerr := rfl
@[simp] theorem State.refuse_linkerr (c : ResultCode) : (s.refuse c).linkerr = s.linkerr := rfl
@[simp] theorem State.refuse_cfg (c : ResultCode) : (s.refuse c).cfg = s.cfg := rfl
@[simp] theorem State.refuse_cnt (c : ResultCode) : (s.refuse c).cnt = s.cnt := rfl
@[simp] theorem State.refuse_slaves (c : ResultCode) : (s.refuse c).slaves = s.slaves := rfl
@[simp] theorem State.refuse_txline (c : ResultCode) : (s.refuse c).txline = s.txline := rfl
@[simp] theorem State.refuse_bus (c : ResultCode) : (s.refuse c).bus = s.bus := rfl
@[simp] theorem State.refuse_agenda (c : ResultCode) : (s.refuse c).agenda = s.agenda := rfl
@[simp] theorem State.refuse_turn (c : ResultCode) : (s.refuse c).turn = s.turn := rfl

/-! ### issue -/

@[simp] theorem State.issue_par (p : Phase) : (s.issue p).par = s.par := rfl
@[simp] theorem State.issue_now (p : Phase) : (s.issue p).now = s.now := rfl
@[simp] theorem State.issue_acc (p : Phase) : (s.issue p).acc = s.acc := rfl
@[simp] theorem State.issue_mode (p : Phase) : (s.issue p).mode = s.mode := rfl
@[simp] theorem State.issue_txpay (p : Phase) : (s.issue p).txpay = s.txpay := rfl
@[simp] theorem State.issue_txbuf (p : Phase) : (s.issue p).txbuf = s.txbuf := rfl
@[simp] theorem State.issue_txvalid (p : Phase) : (s.issue p).txvalid = s.txvalid := rfl
@[simp] theorem State.issue_txpos (p : Phase) : (s.issue p).txpos = s.txpos := rfl
@[simp] theorem State.issue_rxfifo (p : Phase) : (s.issue p).rxfifo = s.rxfifo := rfl
@[simp] theorem State.issue_rxbuf (p : Phase) : (s.issue p).rxbuf = s.rxbuf := rfl
@[simp] theorem State.issue_rxlen (p : Phase) : (s.issue p).rxlen = s.rxlen := rfl
@[simp] theorem State.issue_rxaddr (p : Phase) : (s.issue p).rxaddr = s.rxaddr := rfl
@[simp] theorem State.issue_rxctrl (p : Phase) : (s.issue p).rxctrl = s.rxctrl := rfl
@[simp] theorem State.issue_rxflen (p : Phase) : (s.issue p).rxflen = s.rxflen := rfl
@[simp] theorem State.issue_rxvalid (p : Phase) : (s.issue p).rxvalid = s.rxvalid := rfl
@[simp] theorem State.issue_fb (p : Phase) : (s.issue p).fb = s.fb := rfl
@[simp] theorem State.issue_rxts (p : Phase) : (s.issue p).rxts = s.rxts := rfl
@[simp] theorem State.issue_dl (p : Phase) : (s.issue p).dl = s.dl := rfl
@[simp] theorem State.issue_t0 (p : Phase) : (s.issue p).t0 = s.t0 := rfl
@[simp] theorem State.issue_disc (p : Phase) : (s.issue p).disc = s.disc := rfl
@[simp] theorem State.issue_ph (p : Phase) : (s.issue p).ph = p := rfl
@[simp] theorem State.issue_busy (p : Phase) : (s.issue p).busy = true := rfl
@[simp] theorem State.issue_linkOpen (p : Phase) : (s.issue p).linkOpen = s.linkOpen := rfl
@[simp] theorem State.issue_res (p : Phase) : (s.issue p).res = .pending := rfl
@[simp] theorem State.issue_result (p : Phase) : (s.issue p).result = 0#64 := rfl
@[simp] theorem State.issue_lastcmd (p : Phase) : (s.issue p).lastcmd = s.lastcmd := rfl
@[simp] theorem State.issue_cmdovr (p : Phase) : (s.issue p).cmdovr = s.cmdovr := rfl
@[simp] theorem State.issue_wrerr (p : Phase) : (s.issue p).wrerr = s.wrerr := rfl
@[simp] theorem State.issue_linkerr (p : Phase) : (s.issue p).linkerr = s.linkerr := rfl
@[simp] theorem State.issue_cfg (p : Phase) : (s.issue p).cfg = s.cfg := rfl
@[simp] theorem State.issue_cnt (p : Phase) : (s.issue p).cnt = s.cnt := rfl
@[simp] theorem State.issue_slaves (p : Phase) : (s.issue p).slaves = s.slaves := rfl
@[simp] theorem State.issue_txline (p : Phase) : (s.issue p).txline = s.txline := rfl
@[simp] theorem State.issue_bus (p : Phase) : (s.issue p).bus = s.bus := rfl
@[simp] theorem State.issue_agenda (p : Phase) : (s.issue p).agenda = s.agenda := rfl
@[simp] theorem State.issue_turn (p : Phase) : (s.issue p).turn = s.turn := rfl

/-! ### emit -/

@[simp] theorem State.emit_par (b : Byte) : (s.emit b).par = s.par := rfl
@[simp] theorem State.emit_now (b : Byte) : (s.emit b).now = s.now := rfl
@[simp] theorem State.emit_acc (b : Byte) : (s.emit b).acc = s.acc := rfl
@[simp] theorem State.emit_mode (b : Byte) : (s.emit b).mode = s.mode := rfl
@[simp] theorem State.emit_txpay (b : Byte) : (s.emit b).txpay = s.txpay := rfl
@[simp] theorem State.emit_txbuf (b : Byte) : (s.emit b).txbuf = s.txbuf := rfl
@[simp] theorem State.emit_txvalid (b : Byte) : (s.emit b).txvalid = s.txvalid := rfl
@[simp] theorem State.emit_txpos (b : Byte) : (s.emit b).txpos = s.txpos := rfl
@[simp] theorem State.emit_rxfifo (b : Byte) : (s.emit b).rxfifo = s.rxfifo := rfl
@[simp] theorem State.emit_rxbuf (b : Byte) : (s.emit b).rxbuf = s.rxbuf := rfl
@[simp] theorem State.emit_rxlen (b : Byte) : (s.emit b).rxlen = s.rxlen := rfl
@[simp] theorem State.emit_rxaddr (b : Byte) : (s.emit b).rxaddr = s.rxaddr := rfl
@[simp] theorem State.emit_rxctrl (b : Byte) : (s.emit b).rxctrl = s.rxctrl := rfl
@[simp] theorem State.emit_rxflen (b : Byte) : (s.emit b).rxflen = s.rxflen := rfl
@[simp] theorem State.emit_rxvalid (b : Byte) : (s.emit b).rxvalid = s.rxvalid := rfl
@[simp] theorem State.emit_fb (b : Byte) : (s.emit b).fb = s.fb := rfl
@[simp] theorem State.emit_rxts (b : Byte) : (s.emit b).rxts = s.rxts := rfl
@[simp] theorem State.emit_dl (b : Byte) : (s.emit b).dl = s.dl := rfl
@[simp] theorem State.emit_t0 (b : Byte) : (s.emit b).t0 = s.t0 := rfl
@[simp] theorem State.emit_disc (b : Byte) : (s.emit b).disc = s.disc := rfl
@[simp] theorem State.emit_ph (b : Byte) : (s.emit b).ph = s.ph := rfl
@[simp] theorem State.emit_busy (b : Byte) : (s.emit b).busy = s.busy := rfl
@[simp] theorem State.emit_linkOpen (b : Byte) : (s.emit b).linkOpen = s.linkOpen := rfl
@[simp] theorem State.emit_res (b : Byte) : (s.emit b).res = s.res := rfl
@[simp] theorem State.emit_result (b : Byte) : (s.emit b).result = s.result := rfl
@[simp] theorem State.emit_lastcmd (b : Byte) : (s.emit b).lastcmd = s.lastcmd := rfl
@[simp] theorem State.emit_cmdovr (b : Byte) : (s.emit b).cmdovr = s.cmdovr := rfl
@[simp] theorem State.emit_wrerr (b : Byte) : (s.emit b).wrerr = s.wrerr := rfl
@[simp] theorem State.emit_linkerr (b : Byte) : (s.emit b).linkerr = s.linkerr := rfl
@[simp] theorem State.emit_cfg (b : Byte) : (s.emit b).cfg = s.cfg := rfl
@[simp] theorem State.emit_cnt (b : Byte) : (s.emit b).cnt = s.cnt := rfl
@[simp] theorem State.emit_slaves (b : Byte) : (s.emit b).slaves = s.slaves := rfl
@[simp] theorem State.emit_txline (b : Byte) : (s.emit b).txline = s.txline ++ [b] := rfl
@[simp] theorem State.emit_bus (b : Byte) : (s.emit b).bus = s.bus := rfl
@[simp] theorem State.emit_agenda (b : Byte) : (s.emit b).agenda = s.agenda := rfl
@[simp] theorem State.emit_turn (b : Byte) : (s.emit b).turn = s.turn := rfl

/-! ### setSlot -/

@[simp] theorem State.setSlot_par (i : Nat) (S : Slot) : (s.setSlot i S).par = s.par := rfl
@[simp] theorem State.setSlot_now (i : Nat) (S : Slot) : (s.setSlot i S).now = s.now := rfl
@[simp] theorem State.setSlot_acc (i : Nat) (S : Slot) : (s.setSlot i S).acc = s.acc := rfl
@[simp] theorem State.setSlot_mode (i : Nat) (S : Slot) : (s.setSlot i S).mode = s.mode := rfl
@[simp] theorem State.setSlot_txpay (i : Nat) (S : Slot) : (s.setSlot i S).txpay = s.txpay := rfl
@[simp] theorem State.setSlot_txbuf (i : Nat) (S : Slot) : (s.setSlot i S).txbuf = s.txbuf := rfl
@[simp] theorem State.setSlot_txvalid (i : Nat) (S : Slot) : (s.setSlot i S).txvalid = s.txvalid := rfl
@[simp] theorem State.setSlot_txpos (i : Nat) (S : Slot) : (s.setSlot i S).txpos = s.txpos := rfl
@[simp] theorem State.setSlot_rxfifo (i : Nat) (S : Slot) : (s.setSlot i S).rxfifo = s.rxfifo := rfl
@[simp] theorem State.setSlot_rxbuf (i : Nat) (S : Slot) : (s.setSlot i S).rxbuf = s.rxbuf := rfl
@[simp] theorem State.setSlot_rxlen (i : Nat) (S : Slot) : (s.setSlot i S).rxlen = s.rxlen := rfl
@[simp] theorem State.setSlot_rxaddr (i : Nat) (S : Slot) : (s.setSlot i S).rxaddr = s.rxaddr := rfl
@[simp] theorem State.setSlot_rxctrl (i : Nat) (S : Slot) : (s.setSlot i S).rxctrl = s.rxctrl := rfl
@[simp] theorem State.setSlot_rxflen (i : Nat) (S : Slot) : (s.setSlot i S).rxflen = s.rxflen := rfl
@[simp] theorem State.setSlot_rxvalid (i : Nat) (S : Slot) : (s.setSlot i S).rxvalid = s.rxvalid := rfl
@[simp] theorem State.setSlot_fb (i : Nat) (S : Slot) : (s.setSlot i S).fb = s.fb := rfl
@[simp] theorem State.setSlot_rxts (i : Nat) (S : Slot) : (s.setSlot i S).rxts = s.rxts := rfl
@[simp] theorem State.setSlot_dl (i : Nat) (S : Slot) : (s.setSlot i S).dl = s.dl := rfl
@[simp] theorem State.setSlot_t0 (i : Nat) (S : Slot) : (s.setSlot i S).t0 = s.t0 := rfl
@[simp] theorem State.setSlot_disc (i : Nat) (S : Slot) : (s.setSlot i S).disc = s.disc := rfl
@[simp] theorem State.setSlot_ph (i : Nat) (S : Slot) : (s.setSlot i S).ph = s.ph := rfl
@[simp] theorem State.setSlot_busy (i : Nat) (S : Slot) : (s.setSlot i S).busy = s.busy := rfl
@[simp] theorem State.setSlot_linkOpen (i : Nat) (S : Slot) : (s.setSlot i S).linkOpen = s.linkOpen := rfl
@[simp] theorem State.setSlot_res (i : Nat) (S : Slot) : (s.setSlot i S).res = s.res := rfl
@[simp] theorem State.setSlot_result (i : Nat) (S : Slot) : (s.setSlot i S).result = s.result := rfl
@[simp] theorem State.setSlot_lastcmd (i : Nat) (S : Slot) : (s.setSlot i S).lastcmd = s.lastcmd := rfl
@[simp] theorem State.setSlot_cmdovr (i : Nat) (S : Slot) : (s.setSlot i S).cmdovr = s.cmdovr := rfl
@[simp] theorem State.setSlot_wrerr (i : Nat) (S : Slot) : (s.setSlot i S).wrerr = s.wrerr := rfl
@[simp] theorem State.setSlot_linkerr (i : Nat) (S : Slot) : (s.setSlot i S).linkerr = s.linkerr := rfl
@[simp] theorem State.setSlot_cfg (i : Nat) (S : Slot) : (s.setSlot i S).cfg = s.cfg := rfl
@[simp] theorem State.setSlot_cnt (i : Nat) (S : Slot) : (s.setSlot i S).cnt = s.cnt := rfl
@[simp] theorem State.setSlot_slaves (i : Nat) (S : Slot) : (s.setSlot i S).slaves = s.slaves.set i S := rfl
@[simp] theorem State.setSlot_txline (i : Nat) (S : Slot) : (s.setSlot i S).txline = s.txline := rfl
@[simp] theorem State.setSlot_bus (i : Nat) (S : Slot) : (s.setSlot i S).bus = s.bus := rfl
@[simp] theorem State.setSlot_agenda (i : Nat) (S : Slot) : (s.setSlot i S).agenda = s.agenda := rfl
@[simp] theorem State.setSlot_turn (i : Nat) (S : Slot) : (s.setSlot i S).turn = s.turn := rfl

/-! ### rxDone -/

@[simp] theorem State.rxDone_par (c : ResultCode) (v : Word) : (s.rxDone c v).par = s.par := rfl
@[simp] theorem State.rxDone_now (c : ResultCode) (v : Word) : (s.rxDone c v).now = s.now := rfl
@[simp] theorem State.rxDone_acc (c : ResultCode) (v : Word) : (s.rxDone c v).acc = s.acc := rfl
@[simp] theorem State.rxDone_mode (c : ResultCode) (v : Word) : (s.rxDone c v).mode = s.mode := rfl
@[simp] theorem State.rxDone_txpay (c : ResultCode) (v : Word) : (s.rxDone c v).txpay = s.txpay := rfl
@[simp] theorem State.rxDone_txbuf (c : ResultCode) (v : Word) : (s.rxDone c v).txbuf = s.txbuf := rfl
@[simp] theorem State.rxDone_txvalid (c : ResultCode) (v : Word) : (s.rxDone c v).txvalid = s.txvalid := rfl
@[simp] theorem State.rxDone_txpos (c : ResultCode) (v : Word) : (s.rxDone c v).txpos = s.txpos := rfl
@[simp] theorem State.rxDone_rxfifo (c : ResultCode) (v : Word) : (s.rxDone c v).rxfifo = s.rxfifo := rfl
@[simp] theorem State.rxDone_rxbuf (c : ResultCode) (v : Word) : (s.rxDone c v).rxbuf = s.rxbuf := rfl
@[simp] theorem State.rxDone_rxlen (c : ResultCode) (v : Word) : (s.rxDone c v).rxlen = s.rxlen := rfl
@[simp] theorem State.rxDone_rxaddr (c : ResultCode) (v : Word) : (s.rxDone c v).rxaddr = s.rxaddr := rfl
@[simp] theorem State.rxDone_rxctrl (c : ResultCode) (v : Word) : (s.rxDone c v).rxctrl = s.rxctrl := rfl
@[simp] theorem State.rxDone_rxflen (c : ResultCode) (v : Word) : (s.rxDone c v).rxflen = s.rxflen := rfl
@[simp] theorem State.rxDone_rxvalid (c : ResultCode) (v : Word) : (s.rxDone c v).rxvalid = (c == .ok) := rfl
@[simp] theorem State.rxDone_fb (c : ResultCode) (v : Word) : (s.rxDone c v).fb = s.fb := rfl
@[simp] theorem State.rxDone_rxts (c : ResultCode) (v : Word) : (s.rxDone c v).rxts = s.now := rfl
@[simp] theorem State.rxDone_dl (c : ResultCode) (v : Word) : (s.rxDone c v).dl = s.dl := rfl
@[simp] theorem State.rxDone_t0 (c : ResultCode) (v : Word) : (s.rxDone c v).t0 = s.t0 := rfl
@[simp] theorem State.rxDone_disc (c : ResultCode) (v : Word) : (s.rxDone c v).disc = s.disc := rfl
@[simp] theorem State.rxDone_ph (c : ResultCode) (v : Word) : (s.rxDone c v).ph = .idle := rfl
@[simp] theorem State.rxDone_busy (c : ResultCode) (v : Word) : (s.rxDone c v).busy = false := rfl
@[simp] theorem State.rxDone_linkOpen (c : ResultCode) (v : Word) : (s.rxDone c v).linkOpen = s.linkOpen := rfl
@[simp] theorem State.rxDone_res (c : ResultCode) (v : Word) : (s.rxDone c v).res = c := rfl
@[simp] theorem State.rxDone_result (c : ResultCode) (v : Word) : (s.rxDone c v).result = v := rfl
@[simp] theorem State.rxDone_lastcmd (c : ResultCode) (v : Word) : (s.rxDone c v).lastcmd = s.lastcmd := rfl
@[simp] theorem State.rxDone_cmdovr (c : ResultCode) (v : Word) : (s.rxDone c v).cmdovr = s.cmdovr := rfl
@[simp] theorem State.rxDone_wrerr (c : ResultCode) (v : Word) : (s.rxDone c v).wrerr = s.wrerr := rfl
@[simp] theorem State.rxDone_linkerr (c : ResultCode) (v : Word) : (s.rxDone c v).linkerr = s.linkerr := rfl
@[simp] theorem State.rxDone_cfg (c : ResultCode) (v : Word) : (s.rxDone c v).cfg = s.cfg := rfl
@[simp] theorem State.rxDone_cnt (c : ResultCode) (v : Word) : (s.rxDone c v).cnt = s.cnt.tally c := rfl
@[simp] theorem State.rxDone_slaves (c : ResultCode) (v : Word) : (s.rxDone c v).slaves = s.slaves := rfl
@[simp] theorem State.rxDone_txline (c : ResultCode) (v : Word) : (s.rxDone c v).txline = s.txline := rfl
@[simp] theorem State.rxDone_bus (c : ResultCode) (v : Word) : (s.rxDone c v).bus = s.bus := rfl
@[simp] theorem State.rxDone_agenda (c : ResultCode) (v : Word) : (s.rxDone c v).agenda = s.agenda := rfl
@[simp] theorem State.rxDone_turn (c : ResultCode) (v : Word) : (s.rxDone c v).turn = s.turn := rfl

/-! ### countFlyBy -/

@[simp] theorem State.countFlyBy_par : (s.countFlyBy).par = s.par := by unfold State.countFlyBy; split <;> rfl
@[simp] theorem State.countFlyBy_now : (s.countFlyBy).now = s.now := by unfold State.countFlyBy; split <;> rfl
@[simp] theorem State.countFlyBy_acc : (s.countFlyBy).acc = s.acc := by unfold State.countFlyBy; split <;> rfl
@[simp] theorem State.countFlyBy_mode : (s.countFlyBy).mode = s.mode := by unfold State.countFlyBy; split <;> rfl
@[simp] theorem State.countFlyBy_txpay : (s.countFlyBy).txpay = s.txpay := by unfold State.countFlyBy; split <;> rfl
@[simp] theorem State.countFlyBy_txbuf : (s.countFlyBy).txbuf = s.txbuf := by unfold State.countFlyBy; split <;> rfl
@[simp] theorem State.countFlyBy_txvalid : (s.countFlyBy).txvalid = s.txvalid := by unfold State.countFlyBy; split <;> rfl
@[simp] theorem State.countFlyBy_txpos : (s.countFlyBy).txpos = s.txpos := by unfold State.countFlyBy; split <;> rfl
@[simp] theorem State.countFlyBy_rxfifo : (s.countFlyBy).rxfifo = s.rxfifo := by unfold State.countFlyBy; split <;> rfl
@[simp] theorem State.countFlyBy_rxbuf : (s.countFlyBy).rxbuf = s.rxbuf := by unfold State.countFlyBy; split <;> rfl
@[simp] theorem State.countFlyBy_rxlen : (s.countFlyBy).rxlen = s.rxlen := by unfold State.countFlyBy; split <;> rfl
@[simp] theorem State.countFlyBy_rxaddr : (s.countFlyBy).rxaddr = s.rxaddr := by unfold State.countFlyBy; split <;> rfl
@[simp] theorem State.countFlyBy_rxctrl : (s.countFlyBy).rxctrl = s.rxctrl := by unfold State.countFlyBy; split <;> rfl
@[simp] theorem State.countFlyBy_rxflen : (s.countFlyBy).rxflen = s.rxflen := by unfold State.countFlyBy; split <;> rfl
@[simp] theorem State.countFlyBy_rxvalid : (s.countFlyBy).rxvalid = s.rxvalid := by unfold State.countFlyBy; split <;> rfl
@[simp] theorem State.countFlyBy_fb : (s.countFlyBy).fb = s.fb := by unfold State.countFlyBy; split <;> rfl
@[simp] theorem State.countFlyBy_rxts : (s.countFlyBy).rxts = s.rxts := by unfold State.countFlyBy; split <;> rfl
@[simp] theorem State.countFlyBy_dl : (s.countFlyBy).dl = s.dl := by unfold State.countFlyBy; split <;> rfl
@[simp] theorem State.countFlyBy_t0 : (s.countFlyBy).t0 = s.t0 := by unfold State.countFlyBy; split <;> rfl
@[simp] theorem State.countFlyBy_disc : (s.countFlyBy).disc = s.disc := by unfold State.countFlyBy; split <;> rfl
@[simp] theorem State.countFlyBy_ph : (s.countFlyBy).ph = s.ph := by unfold State.countFlyBy; split <;> rfl
@[simp] theorem State.countFlyBy_busy : (s.countFlyBy).busy = s.busy := by unfold State.countFlyBy; split <;> rfl
@[simp] theorem State.countFlyBy_linkOpen : (s.countFlyBy).linkOpen = s.linkOpen := by unfold State.countFlyBy; split <;> rfl
@[simp] theorem State.countFlyBy_res : (s.countFlyBy).res = s.res := by unfold State.countFlyBy; split <;> rfl
@[simp] theorem State.countFlyBy_result : (s.countFlyBy).result = s.result := by unfold State.countFlyBy; split <;> rfl
@[simp] theorem State.countFlyBy_lastcmd : (s.countFlyBy).lastcmd = s.lastcmd := by unfold State.countFlyBy; split <;> rfl
@[simp] theorem State.countFlyBy_cmdovr : (s.countFlyBy).cmdovr = s.cmdovr := by unfold State.countFlyBy; split <;> rfl
@[simp] theorem State.countFlyBy_wrerr : (s.countFlyBy).wrerr = s.wrerr := by unfold State.countFlyBy; split <;> rfl
@[simp] theorem State.countFlyBy_linkerr : (s.countFlyBy).linkerr = s.linkerr := by unfold State.countFlyBy; split <;> rfl
@[simp] theorem State.countFlyBy_cfg : (s.countFlyBy).cfg = s.cfg := by unfold State.countFlyBy; split <;> rfl
@[simp] theorem State.countFlyBy_cnt : (s.countFlyBy).cnt = if s.cfg.flyBy then { s.cnt with flyByErr := s.cnt.flyByErr + 1#64 } else s.cnt := by unfold State.countFlyBy; split <;> rfl
@[simp] theorem State.countFlyBy_slaves : (s.countFlyBy).slaves = s.slaves := by unfold State.countFlyBy; split <;> rfl
@[simp] theorem State.countFlyBy_txline : (s.countFlyBy).txline = s.txline := by unfold State.countFlyBy; split <;> rfl
@[simp] theorem State.countFlyBy_bus : (s.countFlyBy).bus = s.bus := by unfold State.countFlyBy; split <;> rfl
@[simp] theorem State.countFlyBy_agenda : (s.countFlyBy).agenda = s.agenda := by unfold State.countFlyBy; split <;> rfl
@[simp] theorem State.countFlyBy_turn : (s.countFlyBy).turn = s.turn := by unfold State.countFlyBy; split <;> rfl

/-! ### stampIf -/

@[simp] theorem State.stampIf_par (d : Bool) : (s.stampIf d).par = s.par := by unfold State.stampIf; split <;> rfl
@[simp] theorem State.stampIf_now (d : Bool) : (s.stampIf d).now = s.now := by unfold State.stampIf; split <;> rfl
@[simp] theorem State.stampIf_acc (d : Bool) : (s.stampIf d).acc = s.acc := by unfold State.stampIf; split <;> rfl
@[simp] theorem State.stampIf_mode (d : Bool) : (s.stampIf d).mode = s.mode := by unfold State.stampIf; split <;> rfl
@[simp] theorem State.stampIf_txpay (d : Bool) : (s.stampIf d).txpay = s.txpay := by unfold State.stampIf; split <;> rfl
@[simp] theorem State.stampIf_txbuf (d : Bool) : (s.stampIf d).txbuf = s.txbuf := by unfold State.stampIf; split <;> rfl
@[simp] theorem State.stampIf_txvalid (d : Bool) : (s.stampIf d).txvalid = s.txvalid := by unfold State.stampIf; split <;> rfl
@[simp] theorem State.stampIf_txpos (d : Bool) : (s.stampIf d).txpos = s.txpos := by unfold State.stampIf; split <;> rfl
@[simp] theorem State.stampIf_rxfifo (d : Bool) : (s.stampIf d).rxfifo = s.rxfifo := by unfold State.stampIf; split <;> rfl
@[simp] theorem State.stampIf_rxbuf (d : Bool) : (s.stampIf d).rxbuf = s.rxbuf := by unfold State.stampIf; split <;> rfl
@[simp] theorem State.stampIf_rxlen (d : Bool) : (s.stampIf d).rxlen = s.rxlen := by unfold State.stampIf; split <;> rfl
@[simp] theorem State.stampIf_rxaddr (d : Bool) : (s.stampIf d).rxaddr = s.rxaddr := by unfold State.stampIf; split <;> rfl
@[simp] theorem State.stampIf_rxctrl (d : Bool) : (s.stampIf d).rxctrl = s.rxctrl := by unfold State.stampIf; split <;> rfl
@[simp] theorem State.stampIf_rxflen (d : Bool) : (s.stampIf d).rxflen = s.rxflen := by unfold State.stampIf; split <;> rfl
@[simp] theorem State.stampIf_rxvalid (d : Bool) : (s.stampIf d).rxvalid = s.rxvalid := by unfold State.stampIf; split <;> rfl
@[simp] theorem State.stampIf_fb (d : Bool) : (s.stampIf d).fb = s.fb := by unfold State.stampIf; split <;> rfl
@[simp] theorem State.stampIf_rxts (d : Bool) : (s.stampIf d).rxts = if d then s.now else s.rxts := by unfold State.stampIf; split <;> rfl
@[simp] theorem State.stampIf_dl (d : Bool) : (s.stampIf d).dl = s.dl := by unfold State.stampIf; split <;> rfl
@[simp] theorem State.stampIf_t0 (d : Bool) : (s.stampIf d).t0 = s.t0 := by unfold State.stampIf; split <;> rfl
@[simp] theorem State.stampIf_disc (d : Bool) : (s.stampIf d).disc = s.disc := by unfold State.stampIf; split <;> rfl
@[simp] theorem State.stampIf_ph (d : Bool) : (s.stampIf d).ph = s.ph := by unfold State.stampIf; split <;> rfl
@[simp] theorem State.stampIf_busy (d : Bool) : (s.stampIf d).busy = s.busy := by unfold State.stampIf; split <;> rfl
@[simp] theorem State.stampIf_linkOpen (d : Bool) : (s.stampIf d).linkOpen = s.linkOpen := by unfold State.stampIf; split <;> rfl
@[simp] theorem State.stampIf_res (d : Bool) : (s.stampIf d).res = s.res := by unfold State.stampIf; split <;> rfl
@[simp] theorem State.stampIf_result (d : Bool) : (s.stampIf d).result = s.result := by unfold State.stampIf; split <;> rfl
@[simp] theorem State.stampIf_lastcmd (d : Bool) : (s.stampIf d).lastcmd = s.lastcmd := by unfold State.stampIf; split <;> rfl
@[simp] theorem State.stampIf_cmdovr (d : Bool) : (s.stampIf d).cmdovr = s.cmdovr := by unfold State.stampIf; split <;> rfl
@[simp] theorem State.stampIf_wrerr (d : Bool) : (s.stampIf d).wrerr = s.wrerr := by unfold State.stampIf; split <;> rfl
@[simp] theorem State.stampIf_linkerr (d : Bool) : (s.stampIf d).linkerr = s.linkerr := by unfold State.stampIf; split <;> rfl
@[simp] theorem State.stampIf_cfg (d : Bool) : (s.stampIf d).cfg = s.cfg := by unfold State.stampIf; split <;> rfl
@[simp] theorem State.stampIf_cnt (d : Bool) : (s.stampIf d).cnt = s.cnt := by unfold State.stampIf; split <;> rfl
@[simp] theorem State.stampIf_slaves (d : Bool) : (s.stampIf d).slaves = s.slaves := by unfold State.stampIf; split <;> rfl
@[simp] theorem State.stampIf_txline (d : Bool) : (s.stampIf d).txline = s.txline := by unfold State.stampIf; split <;> rfl
@[simp] theorem State.stampIf_bus (d : Bool) : (s.stampIf d).bus = s.bus := by unfold State.stampIf; split <;> rfl
@[simp] theorem State.stampIf_agenda (d : Bool) : (s.stampIf d).agenda = s.agenda := by unfold State.stampIf; split <;> rfl
@[simp] theorem State.stampIf_turn (d : Bool) : (s.stampIf d).turn = s.turn := by unfold State.stampIf; split <;> rfl

/-! ### configure -/

@[simp] theorem State.configure_par (l : Bool) (c : CfgRegs) : (s.configure l c).par = s.par := by cases l <;> rfl
@[simp] theorem State.configure_now (l : Bool) (c : CfgRegs) : (s.configure l c).now = s.now := by cases l <;> rfl
@[simp] theorem State.configure_acc (l : Bool) (c : CfgRegs) : (s.configure l c).acc = s.acc := by cases l <;> rfl
@[simp] theorem State.configure_mode (l : Bool) (c : CfgRegs) : (s.configure l c).mode = s.mode := by cases l <;> rfl
@[simp] theorem State.configure_txpay (l : Bool) (c : CfgRegs) : (s.configure l c).txpay = s.txpay := by cases l <;> rfl
@[simp] theorem State.configure_txbuf (l : Bool) (c : CfgRegs) : (s.configure l c).txbuf = s.txbuf := by cases l <;> rfl
@[simp] theorem State.configure_txvalid (l : Bool) (c : CfgRegs) : (s.configure l c).txvalid = s.txvalid := by cases l <;> rfl
@[simp] theorem State.configure_txpos (l : Bool) (c : CfgRegs) : (s.configure l c).txpos = s.txpos := by cases l <;> rfl
@[simp] theorem State.configure_rxfifo (l : Bool) (c : CfgRegs) : (s.configure l c).rxfifo = s.rxfifo := by cases l <;> rfl
@[simp] theorem State.configure_rxbuf (l : Bool) (c : CfgRegs) : (s.configure l c).rxbuf = s.rxbuf := by cases l <;> rfl
@[simp] theorem State.configure_rxlen (l : Bool) (c : CfgRegs) : (s.configure l c).rxlen = s.rxlen := by cases l <;> rfl
@[simp] theorem State.configure_rxaddr (l : Bool) (c : CfgRegs) : (s.configure l c).rxaddr = s.rxaddr := by cases l <;> rfl
@[simp] theorem State.configure_rxctrl (l : Bool) (c : CfgRegs) : (s.configure l c).rxctrl = s.rxctrl := by cases l <;> rfl
@[simp] theorem State.configure_rxflen (l : Bool) (c : CfgRegs) : (s.configure l c).rxflen = s.rxflen := by cases l <;> rfl
@[simp] theorem State.configure_rxvalid (l : Bool) (c : CfgRegs) : (s.configure l c).rxvalid = s.rxvalid := by cases l <;> rfl
@[simp] theorem State.configure_fb (l : Bool) (c : CfgRegs) : (s.configure l c).fb = s.fb := by cases l <;> rfl
@[simp] theorem State.configure_rxts (l : Bool) (c : CfgRegs) : (s.configure l c).rxts = s.rxts := by cases l <;> rfl
@[simp] theorem State.configure_dl (l : Bool) (c : CfgRegs) : (s.configure l c).dl = s.dl := by cases l <;> rfl
@[simp] theorem State.configure_t0 (l : Bool) (c : CfgRegs) : (s.configure l c).t0 = s.t0 := by cases l <;> rfl
@[simp] theorem State.configure_disc (l : Bool) (c : CfgRegs) : (s.configure l c).disc = s.disc := by cases l <;> rfl
@[simp] theorem State.configure_ph (l : Bool) (c : CfgRegs) : (s.configure l c).ph = s.ph := by cases l <;> rfl
@[simp] theorem State.configure_busy (l : Bool) (c : CfgRegs) : (s.configure l c).busy = s.busy := by cases l <;> rfl
@[simp] theorem State.configure_linkOpen (l : Bool) (c : CfgRegs) : (s.configure l c).linkOpen = s.linkOpen := by cases l <;> rfl
@[simp] theorem State.configure_res (l : Bool) (c : CfgRegs) : (s.configure l c).res = s.res := by cases l <;> rfl
@[simp] theorem State.configure_result (l : Bool) (c : CfgRegs) : (s.configure l c).result = s.result := by cases l <;> rfl
@[simp] theorem State.configure_lastcmd (l : Bool) (c : CfgRegs) : (s.configure l c).lastcmd = s.lastcmd := by cases l <;> rfl
@[simp] theorem State.configure_cmdovr (l : Bool) (c : CfgRegs) : (s.configure l c).cmdovr = s.cmdovr := by cases l <;> rfl
@[simp] theorem State.configure_wrerr (l : Bool) (c : CfgRegs) : (s.configure l c).wrerr = (l || s.wrerr) := by cases l <;> rfl
@[simp] theorem State.configure_linkerr (l : Bool) (c : CfgRegs) : (s.configure l c).linkerr = s.linkerr := by cases l <;> rfl
@[simp] theorem State.configure_cfg (l : Bool) (c : CfgRegs) : (s.configure l c).cfg = if l then s.cfg else c := by cases l <;> rfl
@[simp] theorem State.configure_cnt (l : Bool) (c : CfgRegs) : (s.configure l c).cnt = s.cnt := by cases l <;> rfl
@[simp] theorem State.configure_slaves (l : Bool) (c : CfgRegs) : (s.configure l c).slaves = s.slaves := by cases l <;> rfl
@[simp] theorem State.configure_txline (l : Bool) (c : CfgRegs) : (s.configure l c).txline = s.txline := by cases l <;> rfl
@[simp] theorem State.configure_bus (l : Bool) (c : CfgRegs) : (s.configure l c).bus = s.bus := by cases l <;> rfl
@[simp] theorem State.configure_agenda (l : Bool) (c : CfgRegs) : (s.configure l c).agenda = s.agenda := by cases l <;> rfl
@[simp] theorem State.configure_turn (l : Bool) (c : CfgRegs) : (s.configure l c).turn = s.turn := by cases l <;> rfl

/-! ### afterTurn -/

@[simp] theorem State.afterTurn_par : (s.afterTurn).par = s.par := by unfold State.afterTurn; split <;> simp_all
@[simp] theorem State.afterTurn_now : (s.afterTurn).now = s.now := by unfold State.afterTurn; split <;> simp_all
@[simp] theorem State.afterTurn_acc : (s.afterTurn).acc = s.acc := by unfold State.afterTurn; split <;> simp_all
@[simp] theorem State.afterTurn_mode : (s.afterTurn).mode = s.mode := by unfold State.afterTurn; split <;> simp_all
@[simp] theorem State.afterTurn_txpay : (s.afterTurn).txpay = s.txpay := by unfold State.afterTurn; split <;> simp_all
@[simp] theorem State.afterTurn_txbuf : (s.afterTurn).txbuf = s.txbuf := by unfold State.afterTurn; split <;> simp_all
@[simp] theorem State.afterTurn_txvalid : (s.afterTurn).txvalid = s.txvalid := by unfold State.afterTurn; split <;> simp_all
@[simp] theorem State.afterTurn_txpos : (s.afterTurn).txpos = s.txpos := by unfold State.afterTurn; split <;> simp_all
@[simp] theorem State.afterTurn_rxfifo : (s.afterTurn).rxfifo = s.rxfifo := by unfold State.afterTurn; split <;> simp_all
@[simp] theorem State.afterTurn_rxbuf : (s.afterTurn).rxbuf = s.rxbuf := by unfold State.afterTurn; split <;> simp_all
@[simp] theorem State.afterTurn_rxlen : (s.afterTurn).rxlen = s.rxlen := by unfold State.afterTurn; split <;> simp_all
@[simp] theorem State.afterTurn_rxaddr : (s.afterTurn).rxaddr = s.rxaddr := by unfold State.afterTurn; split <;> simp_all
@[simp] theorem State.afterTurn_rxctrl : (s.afterTurn).rxctrl = s.rxctrl := by unfold State.afterTurn; split <;> simp_all
@[simp] theorem State.afterTurn_rxflen : (s.afterTurn).rxflen = s.rxflen := by unfold State.afterTurn; split <;> simp_all
@[simp] theorem State.afterTurn_rxvalid : (s.afterTurn).rxvalid = s.rxvalid := by unfold State.afterTurn; split <;> simp_all
@[simp] theorem State.afterTurn_fb : (s.afterTurn).fb = s.fb := by unfold State.afterTurn; split <;> simp_all
@[simp] theorem State.afterTurn_rxts : (s.afterTurn).rxts = s.rxts := by unfold State.afterTurn; split <;> simp_all
@[simp] theorem State.afterTurn_dl : (s.afterTurn).dl = s.dl := by unfold State.afterTurn; split <;> simp_all
@[simp] theorem State.afterTurn_t0 : (s.afterTurn).t0 = s.t0 := by unfold State.afterTurn; split <;> simp_all
@[simp] theorem State.afterTurn_disc : (s.afterTurn).disc = s.disc := by unfold State.afterTurn; split <;> simp_all
@[simp] theorem State.afterTurn_ph : (s.afterTurn).ph = s.ph := by unfold State.afterTurn; split <;> simp_all
@[simp] theorem State.afterTurn_busy : (s.afterTurn).busy = s.busy := by unfold State.afterTurn; split <;> simp_all
@[simp] theorem State.afterTurn_linkOpen : (s.afterTurn).linkOpen = s.linkOpen := by unfold State.afterTurn; split <;> simp_all
@[simp] theorem State.afterTurn_res : (s.afterTurn).res = s.res := by unfold State.afterTurn; split <;> simp_all
@[simp] theorem State.afterTurn_result : (s.afterTurn).result = s.result := by unfold State.afterTurn; split <;> simp_all
@[simp] theorem State.afterTurn_lastcmd : (s.afterTurn).lastcmd = s.lastcmd := by unfold State.afterTurn; split <;> simp_all
@[simp] theorem State.afterTurn_cmdovr : (s.afterTurn).cmdovr = s.cmdovr := by unfold State.afterTurn; split <;> simp_all
@[simp] theorem State.afterTurn_wrerr : (s.afterTurn).wrerr = s.wrerr := by unfold State.afterTurn; split <;> simp_all
@[simp] theorem State.afterTurn_linkerr : (s.afterTurn).linkerr = s.linkerr := by unfold State.afterTurn; split <;> simp_all
@[simp] theorem State.afterTurn_cfg : (s.afterTurn).cfg = s.cfg := by unfold State.afterTurn; split <;> simp_all
@[simp] theorem State.afterTurn_cnt : (s.afterTurn).cnt = s.cnt := by unfold State.afterTurn; split <;> simp_all
@[simp] theorem State.afterTurn_slaves : (s.afterTurn).slaves = s.slaves := by unfold State.afterTurn; split <;> simp_all
@[simp] theorem State.afterTurn_txline : (s.afterTurn).txline = s.txline := by unfold State.afterTurn; split <;> simp_all
@[simp] theorem State.afterTurn_bus : (s.afterTurn).bus = s.bus := by unfold State.afterTurn; split <;> simp_all
@[simp] theorem State.afterTurn_agenda : (s.afterTurn).agenda = s.agenda.tail := by unfold State.afterTurn; split <;> simp_all
@[simp] theorem State.afterTurn_turn : (s.afterTurn).turn = if s.agenda = [] then s.turn + 1 else s.turn := by unfold State.afterTurn; split <;> simp_all

end Sys2Proof.Machine
end

