-- ==== Sys2Proof/Laws/Exec.lean ====
section
/-! SUPPORT. What an instruction can do: it always answers a next state, and a part of the state no
instruction touches. -/

namespace Sys2Proof.Machine

/-- To show P of a command's state: P of the refusal, and P of the body on every operand. -/
theorem withOperands_ind {α : Type} {P : State → Prop} {o : Option α} {s : State} {k : α → State}
    (refused : P (s.refuse .badArg)) (body : ∀ x, o = some x → P (k x)) : P (withOperands o s k) := by
  cases o with
  | some x => exact body x rfl
  | none => exact refused

/-- To show P of a line command's state: P of the refusal, and P of the body on an open link. -/
theorem whenOpen_ind {P : State → Prop} {s : State} {k : State → State}
    (refused : P (s.refuse .badState)) (body : s.linkOpen = true → P (k s)) : P (whenOpen s k) := by
  unfold whenOpen
  split
  · rename_i h; exact body h
  · exact refused

/-- The part of the state no instruction touches. -/
structure ExecFrame (s t : State) : Prop where
  par : t.par = s.par
  now : t.now = s.now
  cfg : t.cfg = s.cfg
  lastcmd : t.lastcmd = s.lastcmd
  cmdovr : t.cmdovr = s.cmdovr
  wrerr : t.wrerr = s.wrerr
  linkerr : t.linkerr = s.linkerr
  txline : t.txline = s.txline
  bus : t.bus = s.bus
  agenda : t.agenda = s.agenda
  turn : t.turn = s.turn

/-- A completion touches RES, RESULT, BUSY and PH only. -/
theorem ExecFrame.raise {s t : State} (h : ExecFrame s t) (code : ResultCode) (v : Word) :
    ExecFrame s (t.raise code v) :=
  ⟨h.par, h.now, h.cfg, h.lastcmd, h.cmdovr, h.wrerr, h.linkerr, h.txline, h.bus, h.agenda, h.turn⟩

theorem ExecFrame.refl (s : State) : ExecFrame s s :=
  ⟨rfl, rfl, rfl, rfl, rfl, rfl, rfl, rfl, rfl, rfl, rfl⟩

theorem countFlyBy_cases (s : State) :
    (s.cfg.flyBy = true ∧
      s.countFlyBy = { s with cnt := { s.cnt with flyByErr := s.cnt.flyByErr + 1#64 } }) ∨
    (s.cfg.flyBy = false ∧ s.countFlyBy = s) := by
  unfold State.countFlyBy
  cases s.cfg.flyBy <;> simp

/-- Everything the evaluation of a header can do (42_frame_decode.md R233, R236). -/
theorem evaluateHeader_cases (m : Bool) (address : Byte) (len : BitVec 16) (ctrl : Byte)
    (header : List Byte) (s : State) :
    let t := evaluateHeader m address len ctrl header s
    let s1 : State := { s with rxaddr := address, rxctrl := ctrl, rxflen := len }
    let f1 : State := { s with fb := ⟨ckRange s.par.crcSeed m header, 5#16, len, m, false⟩ }
    (s.addressed address = true ∧ s.par.rxCap < len.toNat ∧ t = s1.rxDone .overflow 0#64) ∨
    (s.addressed address = true ∧ len.toNat ≤ s.par.rxCap ∧ len.toNat < 5 + ckSize m ∧
      t = s1.rxDone .badLen 0#64) ∨
    (s.addressed address = true ∧ len.toNat ≤ s.par.rxCap ∧ 5 + ckSize m ≤ len.toNat ∧
      t = { s1 with ph := .rxBody }) ∨
    (s.addressed address = false ∧ len.toNat ≤ 5 ∧ t = { f1.countFlyBy with ph := .rxScan }) ∨
    (s.addressed address = false ∧ 5 < len.toNat ∧ len.toNat < 5 + ckSize m ∧
      t = { f1.countFlyBy with ph := .fbBody }) ∨
    (s.addressed address = false ∧ 5 + ckSize m ≤ len.toNat ∧ t = { f1 with ph := .fbBody }) := by
  have hck : 1 ≤ ckSize m := by cases m <;> decide
  simp only [evaluateHeader, enterFlyBy]
  cases s.addressed address
  · by_cases h1 : len.toNat < 5 + ckSize m
    · by_cases h2 : len.toNat ≤ 5
      · simp [h1, h2]
      · simp [h1, h2]; omega
    · simp [h1]; omega
  · by_cases h1 : s.par.rxCap < len.toNat
    · simp [h1]
    · by_cases h2 : len.toNat < 5 + ckSize m
      · simp [h1, h2]; omega
      · simp [h1, h2]; omega

theorem evaluateHeader_frame (m : Bool) (address : Byte) (len : BitVec 16) (ctrl : Byte)
    (header : List Byte) (s : State) :
    ExecFrame s (evaluateHeader m address len ctrl header s) := by
  rcases evaluateHeader_cases m address len ctrl header s with
    ⟨-, -, h⟩ | ⟨-, -, -, h⟩ | ⟨-, -, -, h⟩ | ⟨-, -, h⟩ | ⟨-, -, -, h⟩ | ⟨-, -, h⟩ <;>
    rw [h] <;> constructor <;> simp

/-- Every instruction answers a next state, and this is what it leaves alone. -/
theorem exec_next (i : Instr) (s : State) : ∃ t, exec i s = .next t ∧ ExecFrame s t := by
  have base := ExecFrame.refl s
  cases i with
  | frameSum8 r addr len x seq => exact ⟨_, rfl, evaluateHeader_frame ..⟩
  | frameCrc16 r addr len x seq => exact ⟨_, rfl, evaluateHeader_frame ..⟩
  | rxrd a b =>
    refine ⟨_, rfl, withOperands_ind (base.raise ..) fun i _ => ?_⟩
    split
    · exact base.raise ..
    · exact withOperands_ind (base.raise ..) fun _ _ => base.raise ..
  | wrframe a b =>
    refine ⟨_, rfl, withOperands_ind (base.raise ..) fun _ _ =>
      whenOpen_ind (base.raise ..) fun _ => ?_⟩
    constructor <;> rfl
  | resend a b =>
    refine ⟨_, rfl, withOperands_ind (base.raise ..) fun _ _ =>
      whenOpen_ind (base.raise ..) fun _ => ?_⟩
    split <;> constructor <;> rfl
  | rdframe a b =>
    refine ⟨_, rfl, withOperands_ind (base.raise ..) fun _ _ =>
      whenOpen_ind (base.raise ..) fun _ => ?_⟩
    constructor <;> rfl
  | idlewait a b =>
    refine ⟨_, rfl, withOperands_ind (base.raise ..) fun _ _ =>
      whenOpen_ind (base.raise ..) fun _ => ?_⟩
    constructor <;> rfl
  | rxflush a b =>
    refine ⟨_, rfl, withOperands_ind (base.raise ..) fun _ _ =>
      whenOpen_ind (base.raise ..) fun _ => ?_⟩
    constructor <;> simp
  | txppush a b =>
    refine ⟨_, rfl, withOperands_ind (base.raise ..) fun _ _ => ?_⟩
    split <;> constructor <;> rfl
  | linkopen a b =>
    refine ⟨_, rfl, withOperands_ind (base.raise ..) fun _ _ => ?_⟩
    split <;> constructor <;> rfl
  | _ a b =>
    refine ⟨_, rfl, withOperands_ind (base.raise ..) fun _ _ => ?_⟩
    constructor <;> rfl

/-- The frame, from the state an instruction answers. -/
theorem exec_frame {i : Instr} {s t : State} (h : exec i s = .next t) : ExecFrame s t := by
  obtain ⟨t', ht, hf⟩ := exec_next i s
  rw [h] at ht
  cases ht
  exact hf

/-- An instruction never stops. -/
theorem exec_ne_fault (i : Instr) (s : State) (r : Fault) : exec i s ≠ .fault r := by
  obtain ⟨t, ht, -⟩ := exec_next i s
  rw [ht]
  nofun

end Sys2Proof.Machine
end

