-- ==== Sys2Proof/Laws/Words.lean ====
section
/-! SUPPORT. Every packed word as a number: the sum of its fields, each at its place. -/

namespace Sys2Proof

/-- Concatenation as arithmetic. -/
theorem append_toNat {n m : Nat} (x : BitVec n) (y : BitVec m) :
    (x ++ y).toNat = x.toNat * 2 ^ m + y.toNat := by
  rw [BitVec.toNat_append, ← Nat.shiftLeft_add_eq_or_of_lt y.isLt, Nat.shiftLeft_eq]

/-- 30_encoding.md R128. -/
theorem commandWord_toNat (op a : BitVec 8) (b : BitVec 16) :
    (commandWord op a b).toNat = op.toNat + a.toNat * 2 ^ 8 + b.toNat * 2 ^ 16 := by
  change (0#32 ++ b ++ a ++ op).toNat = _
  simp only [append_toNat, BitVec.toNat_ofNat]
  omega

theorem commandWord_eq (op a : BitVec 8) (b : BitVec 16) :
    commandWord op a b = BitVec.ofNat 64 (op.toNat + a.toNat * 2 ^ 8 + b.toNat * 2 ^ 16) := by
  rw [← commandWord_toNat, BitVec.ofNat_toNat, BitVec.setWidth_eq]

/-! ### The fields of a command word -/

theorem wordOp_toNat (w : Word) : (wordOp w).toNat = w.toNat % 2 ^ 8 := by
  simp [wordOp, BitVec.extractLsb'_toNat]

theorem wordA_toNat (w : Word) : (wordA w).toNat = w.toNat / 2 ^ 8 % 2 ^ 8 := by
  simp [wordA, BitVec.extractLsb'_toNat, Nat.shiftRight_eq_div_pow]

theorem wordB_toNat (w : Word) : (wordB w).toNat = w.toNat / 2 ^ 16 % 2 ^ 16 := by
  simp [wordB, BitVec.extractLsb'_toNat, Nat.shiftRight_eq_div_pow]

theorem wordZero_toNat (w : Word) : (wordZero w).toNat = w.toNat / 2 ^ 32 := by
  have := w.isLt
  simp [wordZero, BitVec.extractLsb'_toNat, Nat.shiftRight_eq_div_pow]
  omega

theorem wordZero_eq_zero (w : Word) : wordZero w = 0#32 ↔ w.toNat / 2 ^ 32 = 0 := by
  rw [← BitVec.toNat_inj, wordZero_toNat]; rfl

@[simp] theorem wordOp_commandWord (op a : BitVec 8) (b : BitVec 16) :
    wordOp (commandWord op a b) = op := by
  have := op.isLt
  apply BitVec.eq_of_toNat_eq
  rw [wordOp_toNat, commandWord_toNat]
  omega

@[simp] theorem wordA_commandWord (op a : BitVec 8) (b : BitVec 16) :
    wordA (commandWord op a b) = a := by
  have := op.isLt; have := a.isLt
  apply BitVec.eq_of_toNat_eq
  rw [wordA_toNat, commandWord_toNat]
  omega

@[simp] theorem wordB_commandWord (op a : BitVec 8) (b : BitVec 16) :
    wordB (commandWord op a b) = b := by
  have := op.isLt; have := a.isLt; have := b.isLt
  apply BitVec.eq_of_toNat_eq
  rw [wordB_toNat, commandWord_toNat]
  omega

@[simp] theorem wordZero_commandWord (op a : BitVec 8) (b : BitVec 16) :
    wordZero (commandWord op a b) = 0#32 := by
  have := op.isLt; have := a.isLt; have := b.isLt
  rw [wordZero_eq_zero, commandWord_toNat]
  omega

/-- A word whose reserved bits are 0 is made of its fields. -/
theorem commandWord_of_fields (w : Word) (h : wordZero w = 0#32) :
    commandWord (wordOp w) (wordA w) (wordB w) = w := by
  have := (wordZero_eq_zero w).1 h
  apply BitVec.eq_of_toNat_eq
  rw [commandWord_toNat, wordOp_toNat, wordA_toNat, wordB_toNat]
  omega

/-! ### The bytes of a wire header -/

theorem header_address (r : BitVec 1) (addr : BitVec 7) :
    (r ++ addr).extractLsb' 7 1 = r ∧ (r ++ addr).extractLsb' 0 7 = addr := by
  have := r.isLt; have := addr.isLt
  constructor <;> apply BitVec.eq_of_toNat_eq <;>
    simp only [BitVec.extractLsb'_toNat, append_toNat, Nat.shiftRight_eq_div_pow] <;> omega

theorem header_control (x : BitVec 5) (m : BitVec 1) (seq : BitVec 2) :
    (x ++ m ++ seq).extractLsb' 3 5 = x ∧ (x ++ m ++ seq).extractLsb' 0 2 = seq := by
  have := x.isLt; have := m.isLt; have := seq.isLt
  constructor <;> apply BitVec.eq_of_toNat_eq <;>
    simp only [BitVec.extractLsb'_toNat, append_toNat, Nat.shiftRight_eq_div_pow] <;> omega

theorem header_mode (x : BitVec 5) (m : BitVec 1) (seq : BitVec 2) :
    BitVec.getLsbD (x ++ m ++ seq : BitVec 8) 2 = m.getLsbD 0 := by
  change (x ++ m ++ seq).getLsbD 2 = m.getLsbD 0
  simp only [BitVec.getLsbD_append]
  simp

theorem header_length (len : BitVec 16) :
    (len.extractLsb' 8 8 ++ len.extractLsb' 0 8 : BitVec 16) = len := by
  have := len.isLt
  apply BitVec.eq_of_toNat_eq
  change (len.extractLsb' 8 8 ++ len.extractLsb' 0 8).toNat = len.toNat
  simp only [BitVec.extractLsb'_toNat, append_toNat, Nat.shiftRight_eq_div_pow]
  omega

theorem address_split (address : Byte) :
    (address.extractLsb' 7 1 ++ address.extractLsb' 0 7 : BitVec 8) = address := by
  have := address.isLt
  apply BitVec.eq_of_toNat_eq
  change (address.extractLsb' 7 1 ++ address.extractLsb' 0 7).toNat = _
  simp only [BitVec.extractLsb'_toNat, append_toNat, Nat.shiftRight_eq_div_pow]
  omega

theorem control_split (ctrl : Byte) (m : BitVec 1) (h : m.getLsbD 0 = ctrl.getLsbD 2) :
    (ctrl.extractLsb' 3 5 ++ m ++ ctrl.extractLsb' 0 2 : BitVec 8) = ctrl := by
  revert ctrl m
  decide +kernel

theorem length_split (hi lo : Byte) :
    (hi ++ lo : BitVec 16).extractLsb' 0 8 = lo ∧ (hi ++ lo : BitVec 16).extractLsb' 8 8 = hi ∧
    (hi ++ lo : BitVec 16).toNat = lo.toNat + 256 * hi.toNat := by
  have := hi.isLt; have := lo.isLt
  refine ⟨?_, ?_, ?_⟩
  · apply BitVec.eq_of_toNat_eq
    change ((hi ++ lo).extractLsb' 0 8).toNat = _
    simp only [BitVec.extractLsb'_toNat, append_toNat, Nat.shiftRight_eq_div_pow]
    omega
  · apply BitVec.eq_of_toNat_eq
    change ((hi ++ lo).extractLsb' 8 8).toNat = _
    simp only [BitVec.extractLsb'_toNat, append_toNat, Nat.shiftRight_eq_div_pow]
    omega
  · change (hi ++ lo).toNat = _
    rw [append_toNat]
    omega

namespace Machine

/-! ### Register words -/

theorem statusWord_toNat (s : State) : (statusWord s).toNat =
    s.busy.toNat + s.linkOpen.toNat * 2 + s.txvalid.toNat * 4 + s.rxvalid.toNat * 8
      + s.ph.code.toNat * 2 ^ 4 + s.res.code.toNat * 2 ^ 8 + s.cmdovr.toNat * 2 ^ 16
      + s.wrerr.toNat * 2 ^ 17 + s.linkerr.toNat * 2 ^ 18 := by
  change (0#45 ++ BitVec.ofBool s.linkerr ++ BitVec.ofBool s.wrerr ++ BitVec.ofBool s.cmdovr
    ++ s.res.code ++ s.ph.code ++ BitVec.ofBool s.rxvalid ++ BitVec.ofBool s.txvalid
    ++ BitVec.ofBool s.linkOpen ++ BitVec.ofBool s.busy).toNat = _
  simp only [append_toNat, BitVec.toNat_ofBool, BitVec.toNat_ofNat]
  omega

theorem rxinfoWord_toNat (s : State) : (rxinfoWord s).toNat =
    s.rxlen.toNat + s.rxaddr.toNat * 2 ^ 16 + s.rxctrl.toNat * 2 ^ 24 + s.rxflen.toNat * 2 ^ 32 := by
  change (0#16 ++ s.rxflen ++ s.rxctrl ++ s.rxaddr ++ s.rxlen).toNat = _
  simp only [append_toNat, BitVec.toNat_ofNat]
  omega

theorem ckstateWord_toNat (s : State) :
    (ckstateWord s).toNat = s.acc.toNat + s.mode.toNat * 2 ^ 16 := by
  change (0#47 ++ BitVec.ofBool s.mode ++ s.acc).toNat = _
  simp only [append_toNat, BitVec.toNat_ofBool, BitVec.toNat_ofNat]
  omega

theorem cfgCtlWord_toNat (s : State) : (cfgCtlWord s).toNat =
    s.cfg.station.toNat + s.cfg.listenAll.toNat * 2 ^ 7 + s.cfg.flyBy.toNat * 2 ^ 8
      + s.cfg.crcMode.toNat * 2 ^ 9 := by
  change (0#54 ++ BitVec.ofBool s.cfg.crcMode ++ BitVec.ofBool s.cfg.flyBy
    ++ BitVec.ofBool s.cfg.listenAll ++ s.cfg.station).toNat = _
  simp only [append_toNat, BitVec.toNat_ofBool, BitVec.toNat_ofNat]
  omega

/-! ### RESULT words of the slave commands -/

theorem ackWord_toNat (w : Bool) (q : BitVec 2) :
    (ackWord w q).toNat = w.toNat + q.toNat * 2 ^ 8 := by
  change (0#54 ++ q ++ 0#7 ++ BitVec.ofBool w).toNat = _
  simp only [append_toNat, BitVec.toNat_ofBool, BitVec.toNat_ofNat]
  omega

theorem nakWord_toNat (w d : Bool) (q : BitVec 2) (r : BitVec 8) :
    (nakWord w d q r).toNat = w.toNat * 2 + d.toNat * 4 + q.toNat * 2 ^ 8 + r.toNat * 2 ^ 16 := by
  change (0#40 ++ r ++ 0#6 ++ q ++ 0#5 ++ BitVec.ofBool d ++ BitVec.ofBool w ++ 0#1).toNat = _
  simp only [append_toNat, BitVec.toNat_ofBool, BitVec.toNat_ofNat]
  omega

theorem slotWord_toNat (n : BitVec 8) (S : Slot) : (slotWord n S).toNat =
    S.addr.toNat + S.undef.toNat * 2 ^ 7 + S.en.toNat * 2 ^ 8 + S.txseq.toNat * 2 ^ 9
      + S.rxseq.toNat * 2 ^ 11 + (S.online n).toNat * 2 ^ 13 := by
  change (0#50 ++ BitVec.ofBool (S.online n) ++ S.rxseq ++ S.txseq ++ BitVec.ofBool S.en
    ++ BitVec.ofBool S.undef ++ S.addr).toNat = _
  simp only [append_toNat, BitVec.toNat_ofBool, BitVec.toNat_ofNat]
  omega

end Machine

end Sys2Proof
end

