-- ==== Sys2Proof/Laws/Turn.lean ====
section
/-! SUPPORT. What a turn can do: one lemma per agent, and one for the step. -/

namespace Sys2Proof.Machine

/-! ### HOST -/

/-- Everything a command write can do (30_encoding.md R121). -/
theorem runCommand_cases {w : Word} {s t : State} (h : runCommand w s = .next t) :
    (∃ i, decodeCommand w = .ok i ∧ exec i { s with lastcmd := w } = .next t) ∨
    ((∀ i, decodeCommand w ≠ .ok i) ∧ t = ({ s with lastcmd := w } : State).refuse .badCmd) := by
  unfold runCommand at h
  split at h
  · rename_i i hd
    exact .inl ⟨i, hd, h⟩
  · rename_i e hd
    refine .inr ⟨fun i hi => ?_, ?_⟩
    · rw [hd] at hi; cases hi
    · cases h; rfl

theorem legalAccess_iff (off width : Nat) :
    legalAccess off width = true ↔ width = 8 ∧ off % 8 = 0 ∧ off < 0x100 := by
  simp [legalAccess, and_assoc]

/-- Everything a write of HOST can do (20_memory.md R91, R93). -/
theorem hostWrite_cases {off width : Nat} {v : Word} {s t : State}
    (h : hostWrite off width v s = .next t) :
    (legalAccess off width = false ∧ t = { s with bus := .error }) ∨
    (width = 8 ∧ off = 0 ∧ s.busy = true ∧ t = { s with bus := .done, cmdovr := true }) ∨
    (width = 8 ∧ off = 0 ∧ s.busy = false ∧ runCommand v { s with bus := .done } = .next t) ∨
    (width = 8 ∧ off % 8 = 0 ∧ off < 0x100 ∧ off ≠ 0 ∧ t = regWrite off v { s with bus := .done }) := by
  unfold hostWrite at h
  split at h
  · rename_i hl
    have hw := (legalAccess_iff off width).1 hl
    split at h
    · rename_i h0
      split at h
      · rename_i hb; cases h; exact .inr (.inl ⟨hw.1, h0, hb, rfl⟩)
      · rename_i hb; exact .inr (.inr (.inl ⟨hw.1, h0, eq_false_of_ne_true hb, h⟩))
    · rename_i h0
      cases h
      exact .inr (.inr (.inr ⟨hw.1, hw.2.1, hw.2.2, h0, rfl⟩))
  · rename_i hl
    cases h
    exact .inl ⟨eq_false_of_ne_true hl, rfl⟩

/-- A configuration write stores or sets WRERR, nothing else. -/
theorem configure_cases (locked : Bool) (c : CfgRegs) (s : State) :
    (locked = true ∧ s.configure locked c = { s with wrerr := true }) ∨
    (locked = false ∧ s.configure locked c = { s with cfg := c }) := by
  unfold State.configure
  cases locked <;> simp

/-- Everything a register write can do: it clears sticky flags, stores a configuration no lock forbids,
clears a counter, or sets WRERR. -/
theorem regWrite_cases (off : Nat) (v : Word) (s : State) :
    (off = 0x08 ∧ regWrite off v s = clearSticky v s) ∨
    (∃ c, regWrite off v s = { s with cfg := c } ∧ s.busy = false ∧
      (s.linkOpen = true → c.lead = s.cfg.lead ∧ c.trail = s.cfg.trail ∧
        c.rdTimeout = s.cfg.rdTimeout ∧ c.postRxDelay = s.cfg.postRxDelay ∧
        c.idleThresh = s.cfg.idleThresh)) ∨
    (∃ c : Counters, regWrite off v s = { s with cnt := c }) ∨
    (off ≠ 0x08 ∧ regWrite off v s = { s with wrerr := true }) := by
  unfold regWrite
  split
  · exact .inl ⟨rfl, rfl⟩
  all_goals first
    | exact .inr (.inr (.inl ⟨_, rfl⟩))
    | (refine .inr (.inr (.inr ⟨?_, rfl⟩)); assumption)
    | (rcases configure_cases _ _ s with ⟨-, h⟩ | ⟨hl, h⟩
       · exact .inr (.inr (.inr ⟨by decide, h⟩))
       · refine .inr (.inl ⟨_, h, ?_, ?_⟩) <;> simp_all)

/-! ### SEQ -/

/-- Everything TXWAIT's step can be. -/
theorem seqTxWait_cases (s : State) :
    seqTxWait s = .wait ∨
    (s.turnaroundOver = true ∧ seqTxWait s = .moved { s with ph := .txShift }) := by
  unfold seqTxWait
  split
  · rename_i h; exact .inr ⟨h, rfl⟩
  · exact .inl rfl

/-- Everything TXSHIFT's step can be. -/
theorem seqTxShift_cases (s : State) :
    (s.txbuf[s.txpos]? = none ∧ seqTxShift s = .wait) ∨
    ∃ b, s.txbuf[s.txpos]? = some b ∧
      ((s.txpos + 1 = s.txbuf.length ∧ seqTxShift s =
          .moved (State.done (BitVec.ofNat 64 s.txbuf.length) { s.emit b with txpos := s.txpos + 1 })) ∨
       (s.txpos + 1 ≠ s.txbuf.length ∧
        seqTxShift s = .moved { s.emit b with txpos := s.txpos + 1 })) := by
  unfold seqTxShift
  split
  · rename_i h; exact .inl ⟨h, rfl⟩
  · rename_i b h
    refine .inr ⟨b, h, ?_⟩
    by_cases hl : s.txpos + 1 = s.txbuf.length
    · exact .inl ⟨hl, by simp [hl]⟩
    · exact .inr ⟨hl, by simp [hl]⟩

/-- Everything a receive phase's step can be. -/
theorem seqReceive_cases (s : State) (consume : Byte → State → SeqMove) :
    (∃ b rest, s.rxfifo = b :: rest ∧ seqReceive s consume = consume b { s with rxfifo := rest }) ∨
    (s.rxfifo = [] ∧ s.dl ≤ s.now ∧ seqReceive s consume = .moved (s.rxDone .timeout 0#64)) ∨
    (s.rxfifo = [] ∧ ¬s.dl ≤ s.now ∧ seqReceive s consume = .wait) := by
  unfold seqReceive
  split
  · rename_i b rest h; exact .inl ⟨b, rest, h, rfl⟩
  · rename_i h
    split
    · rename_i hd; exact .inr (.inl ⟨h, hd, rfl⟩)
    · rename_i hd; exact .inr (.inr ⟨h, hd, rfl⟩)

/-- Everything IDLEWT's step can be. -/
theorem seqIdleWt_cases (s : State) :
    (∃ b rest, s.rxfifo = b :: rest ∧
      seqIdleWt s = .moved { s with rxfifo := rest, disc := s.disc + 1#64, t0 := s.now }) ∨
    (s.rxfifo = [] ∧ s.cfg.idleThresh.toNat ≤ s.now.toNat - s.t0.toNat ∧
      seqIdleWt s = .moved ((s.stampIf (s.disc != 0#64)).done s.disc)) ∨
    (s.rxfifo = [] ∧ ¬s.cfg.idleThresh.toNat ≤ s.now.toNat - s.t0.toNat ∧ seqIdleWt s = .wait) := by
  unfold seqIdleWt
  split
  · rename_i b rest h; exact .inl ⟨b, rest, h, rfl⟩
  · rename_i h
    split
    · rename_i hd; exact .inr (.inl ⟨h, hd, rfl⟩)
    · rename_i hd; exact .inr (.inr ⟨h, hd, rfl⟩)

/-- Everything SEQ's next step can be. -/
theorem seqStep_cases (s : State) :
    seqStep s = .wait ∨
    (s.busy = true ∧ s.ph = .txWait ∧ s.turnaroundOver = true ∧
      seqStep s = .moved { s with ph := .txShift }) ∨
    (s.busy = true ∧ s.ph = .txShift ∧ ∃ b, s.txbuf[s.txpos]? = some b ∧ ∃ s1,
      s1 = { s.emit b with txpos := s.txpos + 1 } ∧
      ((s.txpos + 1 = s.txbuf.length ∧
        seqStep s = .moved (s1.done (BitVec.ofNat 64 s.txbuf.length))) ∨
       (s.txpos + 1 ≠ s.txbuf.length ∧ seqStep s = .moved s1))) ∨
    (s.busy = true ∧ s.ph.receiving = true ∧ s.rxfifo = [] ∧ s.dl ≤ s.now ∧
      seqStep s = .moved (s.rxDone .timeout 0#64)) ∨
    (s.busy = true ∧ s.ph.receiving = true ∧ ∃ b rest, s.rxfifo = b :: rest ∧
      ((s.ph = .rxScan ∧ seqStep s = seqRxScan b { s with rxfifo := rest }) ∨
       (s.ph = .rxHdr ∧ seqStep s = seqRxHdr b { s with rxfifo := rest }) ∨
       (s.ph = .rxBody ∧ seqStep s = seqRxBody b { s with rxfifo := rest }) ∨
       (s.ph = .fbBody ∧ seqStep s = seqFbBody b { s with rxfifo := rest }))) ∨
    (s.busy = true ∧ s.ph = .idleWt ∧ ∃ b rest, s.rxfifo = b :: rest ∧
      seqStep s = .moved { s with rxfifo := rest, disc := s.disc + 1#64, t0 := s.now }) ∨
    (s.busy = true ∧ s.ph = .idleWt ∧ s.rxfifo = [] ∧
      s.cfg.idleThresh.toNat ≤ s.now.toNat - s.t0.toNat ∧
      seqStep s = .moved ((s.stampIf (s.disc != 0#64)).done s.disc)) := by
  by_cases hb : s.busy = true
  · obtain ⟨p, hp⟩ : ∃ p, s.ph = p := ⟨_, rfl⟩
    have hs : seqStep s = _ := if_pos hb
    rw [hp] at hs
    cases p
    case idle => exact .inl hs
    case txWait =>
      rcases seqTxWait_cases s with h | ⟨h1, h2⟩
      · exact .inl (hs.trans h)
      · exact .inr (.inl ⟨hb, hp, h1, hs.trans h2⟩)
    case txShift =>
      rcases seqTxShift_cases s with ⟨-, h⟩ | ⟨b, h0, ⟨h1, h2⟩ | ⟨h1, h2⟩⟩
      · exact .inl (hs.trans h)
      · exact .inr (.inr (.inl ⟨hb, hp, b, h0, _, rfl, .inl ⟨h1, hs.trans h2⟩⟩))
      · exact .inr (.inr (.inl ⟨hb, hp, b, h0, _, rfl, .inr ⟨h1, hs.trans h2⟩⟩))
    case idleWt =>
      rcases seqIdleWt_cases s with ⟨b, rest, h1, h2⟩ | ⟨h1, h2, h3⟩ | ⟨-, -, h⟩
      · exact .inr (.inr (.inr (.inr (.inr (.inl ⟨hb, hp, b, rest, h1, hs.trans h2⟩)))))
      · exact .inr (.inr (.inr (.inr (.inr (.inr ⟨hb, hp, h1, h2, hs.trans h3⟩)))))
      · exact .inl (hs.trans h)
    all_goals
      have hr : s.ph.receiving = true := by rw [hp]; rfl
      rcases seqReceive_cases s _ with ⟨b, rest, h1, h2⟩ | ⟨h1, h2, h3⟩ | ⟨-, -, h⟩
      · exact .inr (.inr (.inr (.inr (.inl ⟨hb, hr, b, rest, h1, by simp [hp, hs.trans h2]⟩))))
      · exact .inr (.inr (.inr (.inl ⟨hb, hr, h1, h2, hs.trans h3⟩)))
      · exact .inl (hs.trans h)
  · exact .inl (if_neg hb)

/-- Everything SEQ's turn can do. -/
theorem seqTurn_cases {s t : State} (h : seqTurn s = .next t) :
    (seqStep s = .wait ∧ t = s) ∨ seqStep s = .moved t ∨
    (∃ s1 i, seqStep s = .header s1 ∧ decodeHeader s1.rxbuf = .ok i ∧ exec i s1 = .next t) := by
  unfold seqTurn at h
  split at h
  · rename_i hw; cases h; exact .inl ⟨hw, rfl⟩
  · rename_i s1 hm; cases h; exact .inr (.inl hm)
  · rename_i s1 hh
    split at h
    · rename_i i hd; exact .inr (.inr ⟨s1, i, hh, hd, h⟩)
    · cases h

/-- What decodes as a header is one of the two header rows, with its own bytes. -/
theorem decodeHeader_cases {bytes : List Byte} {i : Instr} (h : decodeHeader bytes = .ok i) :
    ∃ r addr len x seq, (i = .frameSum8 r addr len x seq ∧ bytes = headerBytes 0#1 r addr len x seq) ∨
      (i = .frameCrc16 r addr len x seq ∧ bytes = headerBytes 1#1 r addr len x seq) := by
  unfold decodeHeader at h
  split at h
  · rename_i intro address lo hi ctrl
    split at h
    · rename_i h0
      subst h0
      refine ⟨address.extractLsb' 7 1, address.extractLsb' 0 7, hi ++ lo, ctrl.extractLsb' 3 5,
        ctrl.extractLsb' 0 2, ?_⟩
      simp only [headerBytes, address_split, (length_split hi lo).1, (length_split hi lo).2.1]
      split at h <;> rename_i hm <;> cases h
      · right
        rw [control_split ctrl 1#1 (by rw [hm]; rfl)]
        exact ⟨rfl, rfl⟩
      · left
        rw [control_split ctrl 0#1 (by rw [eq_false_of_ne_true hm]; rfl)]
        exact ⟨rfl, rfl⟩
    · cases h
  · cases h

/-- Executing a decoded header is evaluating it (42_frame_decode.md R233). -/
theorem exec_header {bytes : List Byte} {i : Instr} {s t : State} (hd : decodeHeader bytes = .ok i)
    (h : exec i s = .next t) :
    ∃ m address len ctrl, t = evaluateHeader m address len ctrl bytes s ∧
      bytes = [Config.introducer, address, len.extractLsb' 0 8, len.extractLsb' 8 8, ctrl] ∧
      ctrl.getLsbD 2 = m := by
  obtain ⟨r, addr, len, x, seq, ⟨rfl, hb⟩ | ⟨rfl, hb⟩⟩ := decodeHeader_cases hd
  · cases h
    exact ⟨false, r ++ addr, len, x ++ 0#1 ++ seq, by rw [hb], hb, header_mode ..⟩
  · cases h
    exact ⟨true, r ++ addr, len, x ++ 1#1 ++ seq, by rw [hb], hb, header_mode ..⟩

/-- What SEQ's turn leaves alone. -/
structure SeqFrame (s t : State) : Prop where
  par : t.par = s.par
  now : t.now = s.now
  acc : t.acc = s.acc
  mode : t.mode = s.mode
  txpay : t.txpay = s.txpay
  txbuf : t.txbuf = s.txbuf
  txvalid : t.txvalid = s.txvalid
  linkOpen : t.linkOpen = s.linkOpen
  dl : t.dl = s.dl
  lastcmd : t.lastcmd = s.lastcmd
  cmdovr : t.cmdovr = s.cmdovr
  wrerr : t.wrerr = s.wrerr
  linkerr : t.linkerr = s.linkerr
  cfg : t.cfg = s.cfg
  slaves : t.slaves = s.slaves
  bus : t.bus = s.bus
  agenda : t.agenda = s.agenda
  turn : t.turn = s.turn

theorem evaluateHeader_seqFrame (m : Bool) (address : Byte) (len : BitVec 16) (ctrl : Byte)
    (header : List Byte) (s : State) :
    SeqFrame s (evaluateHeader m address len ctrl header s) := by
  rcases evaluateHeader_cases m address len ctrl header s with
    ⟨-, -, h⟩ | ⟨-, -, -, h⟩ | ⟨-, -, -, h⟩ | ⟨-, -, h⟩ | ⟨-, -, -, h⟩ | ⟨-, -, h⟩ <;>
    rw [h] <;> constructor <;> simp

theorem frameDone_seqFrame (s : State) : SeqFrame s s.frameDone := by
  unfold State.frameDone
  dsimp only
  split <;> constructor <;> simp

/-- Taking a byte off RXFIFO and consuming it in a receive phase leaves alone what SEQ's turn does. -/
theorem seqTurn_frame {s t : State} (h : seqTurn s = .next t) : SeqFrame s t := by
  have self : SeqFrame s s :=
    ⟨rfl, rfl, rfl, rfl, rfl, rfl, rfl, rfl, rfl, rfl, rfl, rfl, rfl, rfl, rfl, rfl, rfl, rfl⟩
  have hs := seqStep_cases s
  rcases seqTurn_cases h with ⟨-, rfl⟩ | hm | ⟨s1, i, hh, hd, he⟩
  · exact self
  · rw [hm] at hs
    rcases hs with hs | ⟨-, -, -, hs⟩ | ⟨-, -, b, -, s1, rfl, ⟨-, hs⟩ | ⟨-, hs⟩⟩ | ⟨-, -, -, -, hs⟩ |
      ⟨-, -, b, rest, -, ⟨-, hs⟩ | ⟨-, hs⟩ | ⟨-, hs⟩ | ⟨-, hs⟩⟩ | ⟨-, -, b, rest, -, hs⟩ | ⟨-, -, -, -, hs⟩
    · cases hs
    · cases hs; constructor <;> rfl
    · cases hs; constructor <;> rfl
    · cases hs; constructor <;> rfl
    · cases hs; constructor <;> simp
    · simp only [seqRxScan, SeqMove.moved.injEq] at hs
      rw [hs]
      split <;> constructor <;> rfl
    · simp only [seqRxHdr] at hs
      split at hs <;> cases hs
      constructor <;> rfl
    · simp only [seqRxBody, SeqMove.moved.injEq] at hs
      rw [hs]
      split
      · obtain ⟨_, _, _, _, _, _, _, _, _, _, _, _, _, _, _, _, _, _⟩ := frameDone_seqFrame
          { s with rxfifo := rest, rxbuf := s.rxbuf ++ [b] }
        constructor <;> assumption
      · constructor <;> rfl
    · simp only [seqFbBody, SeqMove.moved.injEq] at hs
      rw [hs]
      split
      · split <;> constructor <;> simp
      · constructor <;> rfl
    · cases hs; constructor <;> rfl
    · cases hs; constructor <;> simp
  · rw [hh] at hs
    rcases hs with hs | ⟨-, -, -, hs⟩ | ⟨-, -, b, -, _, rfl, ⟨-, hs⟩ | ⟨-, hs⟩⟩ | ⟨-, -, -, -, hs⟩ |
      ⟨-, -, b, rest, -, ⟨-, hs⟩ | ⟨-, hs⟩ | ⟨-, hs⟩ | ⟨-, hs⟩⟩ | ⟨-, -, b, rest, -, hs⟩ | ⟨-, -, -, -, hs⟩ <;>
      try cases hs
    simp only [seqRxHdr] at hs
    split at hs <;> cases hs
    obtain ⟨m, address, len, ctrl, rfl, -, -⟩ := exec_header hd he
    obtain ⟨_, _, _, _, _, _, _, _, _, _, _, _, _, _, _, _, _, _⟩ :=
      evaluateHeader_seqFrame m address len ctrl (s.rxbuf ++ [b])
        { s with rxfifo := rest, rxbuf := s.rxbuf ++ [b] }
    constructor <;> assumption

/-! ### What a turn leaves alone -/

/-- A register write touches the sticky flags, the configuration and the counters only. -/
theorem regWrite_fields (off : Nat) (v : Word) (s : State) :
    regWrite off v s = { s with
      cmdovr := (regWrite off v s).cmdovr
      wrerr := (regWrite off v s).wrerr
      linkerr := (regWrite off v s).linkerr
      cfg := (regWrite off v s).cfg
      cnt := (regWrite off v s).cnt } := by
  rcases regWrite_cases off v s with ⟨_, h⟩ | ⟨c, h, -⟩ | ⟨c, h⟩ | ⟨-, h⟩
  · rw [h]; rfl
  all_goals rw [h]

/-- An arrival touches RXFIFO only. -/
theorem rxArrive_fields (b : Byte) (s : State) :
    rxArrive b s = { s with rxfifo := (rxArrive b s).rxfifo } := by
  by_cases h : s.linkOpen = true
  · rw [rxArrive, if_pos h]
  · rw [rxArrive, if_neg h]

/-- What a line fault touches. -/
theorem lineFault_fields (s : State) :
    lineFault s = { s with
      linkOpen := (lineFault s).linkOpen
      linkerr := (lineFault s).linkerr
      rxfifo := (lineFault s).rxfifo
      rxts := (lineFault s).rxts
      res := (lineFault s).res
      result := (lineFault s).result
      busy := (lineFault s).busy
      ph := (lineFault s).ph } := by
  by_cases h : s.linkOpen = true
  · rw [lineFault, if_pos h]
    by_cases hb : s.busy = true
    · simp only [if_pos hb]
      cases s.ph <;> rfl
    · simp only [if_neg hb]
  · rw [lineFault, if_neg h]

/-- What a command word decodes to is a command. -/
theorem isCommand_of_decode {w : Word} {i : Instr} (h : decodeCommand w = .ok i) :
    i.isCommand = true := by
  unfold decodeCommand at h
  split at h
  · split at h
    · rename_i i' hc
      cases h
      unfold commandOf at hc
      split at hc <;> cases hc <;> rfl
    · cases h
  · cases h

/-! ### The step -/

/-- Everything a step can do: one of the seven turns. -/
theorem step_cases {s t : State} (h : step s = .next t) :
    (∃ off width v, nextTurn s = .write off width v ∧ hostWrite off width v s.afterTurn = .next t) ∨
    (∃ off width, nextTurn s = .read off width ∧ t = hostRead off width s.afterTurn) ∨
    (nextTurn s = .seq ∧ seqTurn s.afterTurn = .next t) ∨
    (∃ d, nextTurn s = .tick d ∧ ((d = 0 ∧ t = s.afterTurn) ∨
      (1 ≤ d ∧ s.now.toNat + d < Config.nowBound ∧
        t = { s.afterTurn with now := s.afterTurn.nowPlus d }))) ∨
    (∃ b, nextTurn s = .rxArrive b ∧ t = rxArrive b s.afterTurn) ∨
    (nextTurn s = .lineFault ∧ t = lineFault s.afterTurn) ∨
    (nextTurn s = .reset ∧ t = externalReset s.afterTurn) := by
  unfold step at h
  cases he : nextTurn s <;> rw [he] at h <;> simp only [perform] at h
  case write off width v => exact .inl ⟨_, _, _, rfl, h⟩
  case read off width => cases h; exact .inr (.inl ⟨_, _, rfl, rfl⟩)
  case seq => exact .inr (.inr (.inl ⟨rfl, h⟩))
  case tick d =>
    refine .inr (.inr (.inr (.inl ⟨d, rfl, ?_⟩)))
    unfold tick at h
    split at h
    · rename_i h0; cases h; exact .inl ⟨h0, rfl⟩
    · rename_i h0
      split at h
      · rename_i hb
        rw [State.afterTurn_now] at hb
        cases h
        exact .inr ⟨Nat.one_le_iff_ne_zero.2 h0, hb, rfl⟩
      · cases h
  case rxArrive b => cases h; exact .inr (.inr (.inr (.inr (.inl ⟨b, rfl, rfl⟩))))
  case lineFault => cases h; exact .inr (.inr (.inr (.inr (.inr (.inl ⟨rfl, rfl⟩)))))
  case reset => cases h; exact .inr (.inr (.inr (.inr (.inr (.inr ⟨rfl, rfl⟩)))))

/-- The two fields taking a turn off can change. -/
theorem afterTurn_eq (s : State) :
    s.afterTurn = { s with agenda := s.afterTurn.agenda, turn := s.afterTurn.turn } := by
  unfold State.afterTurn
  split <;> rfl

end Sys2Proof.Machine
end

