-- ==== Sys2Proof/Laws/Inv.lean ====
section
/-! SUPPORT. The invariant in two parts: what holds whatever the phase, and what a phase adds. -/

namespace Sys2Proof.Machine

/-- The part of the invariant that does not speak of BUSY, PH and RES. -/
structure State.Quiet (s : State) : Prop where
  params : s.par.Ok
  slots : s.slaves.length = s.par.nslaves
  closed_empty : s.linkOpen = false → s.rxfifo = []
  sum_small : s.mode = false → s.acc.toNat < 256
  txpay_cap : s.txpay.length ≤ s.par.payCap
  retained : s.txvalid = true → ∃ lead trail a q m p, lead ≤ 255 ∧ trail ≤ 255 ∧
    p.length ≤ s.par.payCap ∧ s.txbuf = txBytes s.par.crcSeed lead trail a q m p
  txpos_le : s.txpos ≤ s.txbuf.length
  validated : s.rxvalid = true →
    s.rxbuf.length = s.rxflen.toNat ∧ s.rxbuf.take 5 = s.headerInRegs ∧
    s.rxflen.toNat = 5 + s.rxlen.toNat + s.rxCk ∧ s.rxflen.toNat ≤ s.par.rxCap ∧
    ckVerify s.par.crcSeed (s.rxctrl.getLsbD 2) (s.rxbuf.take (s.rxflen.toNat - s.rxCk))
      (s.rxbuf.drop (s.rxflen.toNat - s.rxCk)) = true
  rxbuf_cap : s.rxbuf.length ≤ s.par.rxCap
  now_bound : s.now.toNat < Config.nowBound
  rxts_past : s.rxts ≤ s.now
  t0_past : s.t0 ≤ s.now
  deadlines : ∀ S ∈ s.slaves, S.reacq.toNat ≤ s.now.toNat + Config.reacqUs ∧
    S.backoff.toNat ≤ s.now.toNat + Config.backoffUs

theorem State.Inv.quiet {s : State} (h : s.Inv) : s.Quiet where
  params := h.params
  slots := h.slots
  closed_empty := h.closed_empty
  sum_small := h.sum_small
  txpay_cap := h.txpay_cap
  retained := h.retained
  txpos_le := h.txpos_le
  validated := h.validated
  rxbuf_cap := h.rxbuf_cap
  now_bound := h.now_bound
  rxts_past := h.rxts_past
  t0_past := h.t0_past
  deadlines := h.deadlines

/-- A completion needs nothing of the phase it ends. -/
theorem State.Quiet.raise {s : State} (h : s.Quiet) {code : ResultCode} (hc : code ≠ .pending)
    (v : Word) : (s.raise code v).Inv where
  params := h.params
  slots := h.slots
  busy_iff := by simp
  pending_iff := by simpa using hc
  busy_open := by simp
  closed_empty := h.closed_empty
  sum_small := h.sum_small
  txpay_cap := h.txpay_cap
  retained := h.retained
  txpos_le := h.txpos_le
  transmitting := by simp
  turnaround := by simp
  validated := h.validated
  receiving := by simp [Phase.receiving]
  rxbuf_cap := h.rxbuf_cap
  collecting := by simp
  body := by simp
  flyBy := by simp
  now_bound := h.now_bound
  rxts_past := h.rxts_past
  t0_past := h.t0_past
  deadlines := h.deadlines

theorem State.Quiet.done {s : State} (h : s.Quiet) (v : Word) : (s.done v).Inv :=
  h.raise (by decide) v

/-- A received outcome other than OK invalidates the frame. -/
theorem State.Quiet.rxDone {s : State} (h : s.Quiet) {code : ResultCode} (hc : code ≠ .pending)
    (hok : code ≠ .ok) (v : Word) : (s.rxDone code v).Inv := by
  have hf : (code == ResultCode.ok) = false := by cases code <;> first | rfl | exact absurd rfl hok
  apply State.Quiet.raise _ hc
  exact { h with
    validated := fun hv => by rw [hf] at hv; cases hv
    rxts_past := BitVec.le_refl _ }

end Sys2Proof.Machine
end

