-- ==== Sys2Proof/Laws/PerInstr.lean ====
section
/-! SUPPORT. Per instruction: its encoding carries its operands (30_encoding.md R123, R130). -/

namespace Sys2Proof.Laws.EncodedFields

/-- A command's word holds its operands in a and b and zeros in 63:32; a wire header is five bytes that
begin with the introducer and declare its length. -/
def Statement (i : Instr) : Prop :=
  match encode i with
  | .command w => i.isCommand = true ∧ (wordA w, wordB w) = i.operands ∧ wordZero w = 0#32
  | .header bytes => i.isCommand = false ∧ bytes.length = 5 ∧ bytes.head? = some 0x53#8 ∧
      (bytes.map BitVec.toNat)[2]? = some (i.declaredLength % 256) ∧
      (bytes.map BitVec.toNat)[3]? = some (i.declaredLength / 256)

theorem nop (a : BitVec 8) (b : BitVec 16) : Statement (.nop a b) := by
  simp [Statement, encode, Instr.isCommand, Instr.operands]

theorem ckinit (a : BitVec 8) (b : BitVec 16) : Statement (.ckinit a b) := by
  simp [Statement, encode, Instr.isCommand, Instr.operands]

theorem ckfold (a : BitVec 8) (b : BitVec 16) : Statement (.ckfold a b) := by
  simp [Statement, encode, Instr.isCommand, Instr.operands]

theorem ckfin (a : BitVec 8) (b : BitVec 16) : Statement (.ckfin a b) := by
  simp [Statement, encode, Instr.isCommand, Instr.operands]

theorem ckvfy (a : BitVec 8) (b : BitVec 16) : Statement (.ckvfy a b) := by
  simp [Statement, encode, Instr.isCommand, Instr.operands]

theorem txpclr (a : BitVec 8) (b : BitVec 16) : Statement (.txpclr a b) := by
  simp [Statement, encode, Instr.isCommand, Instr.operands]

theorem txppush (a : BitVec 8) (b : BitVec 16) : Statement (.txppush a b) := by
  simp [Statement, encode, Instr.isCommand, Instr.operands]

theorem wrframe (a : BitVec 8) (b : BitVec 16) : Statement (.wrframe a b) := by
  simp [Statement, encode, Instr.isCommand, Instr.operands]

theorem resend (a : BitVec 8) (b : BitVec 16) : Statement (.resend a b) := by
  simp [Statement, encode, Instr.isCommand, Instr.operands]

theorem rdframe (a : BitVec 8) (b : BitVec 16) : Statement (.rdframe a b) := by
  simp [Statement, encode, Instr.isCommand, Instr.operands]

theorem rxrd (a : BitVec 8) (b : BitVec 16) : Statement (.rxrd a b) := by
  simp [Statement, encode, Instr.isCommand, Instr.operands]

theorem idlewait (a : BitVec 8) (b : BitVec 16) : Statement (.idlewait a b) := by
  simp [Statement, encode, Instr.isCommand, Instr.operands]

theorem rxflush (a : BitVec 8) (b : BitVec 16) : Statement (.rxflush a b) := by
  simp [Statement, encode, Instr.isCommand, Instr.operands]

theorem linkopen (a : BitVec 8) (b : BitVec 16) : Statement (.linkopen a b) := by
  simp [Statement, encode, Instr.isCommand, Instr.operands]

theorem linkclose (a : BitVec 8) (b : BitVec 16) : Statement (.linkclose a b) := by
  simp [Statement, encode, Instr.isCommand, Instr.operands]

theorem slcfg (a : BitVec 8) (b : BitVec 16) : Statement (.slcfg a b) := by
  simp [Statement, encode, Instr.isCommand, Instr.operands]

theorem slen (a : BitVec 8) (b : BitVec 16) : Statement (.slen a b) := by
  simp [Statement, encode, Instr.isCommand, Instr.operands]

theorem slack (a : BitVec 8) (b : BitVec 16) : Statement (.slack a b) := by
  simp [Statement, encode, Instr.isCommand, Instr.operands]

theorem slnak (a : BitVec 8) (b : BitVec 16) : Statement (.slnak a b) := by
  simp [Statement, encode, Instr.isCommand, Instr.operands]

theorem slnakr (a : BitVec 8) (b : BitVec 16) : Statement (.slnakr a b) := by
  simp [Statement, encode, Instr.isCommand, Instr.operands]

theorem sltkl (a : BitVec 8) (b : BitVec 16) : Statement (.sltkl a b) := by
  simp [Statement, encode, Instr.isCommand, Instr.operands]

theorem slqry (a : BitVec 8) (b : BitVec 16) : Statement (.slqry a b) := by
  simp [Statement, encode, Instr.isCommand, Instr.operands]

theorem slrd (a : BitVec 8) (b : BitVec 16) : Statement (.slrd a b) := by
  simp [Statement, encode, Instr.isCommand, Instr.operands]

theorem slsrx (a : BitVec 8) (b : BitVec 16) : Statement (.slsrx a b) := by
  simp [Statement, encode, Instr.isCommand, Instr.operands]

theorem frameSum8 (r : BitVec 1) (addr : BitVec 7) (len : BitVec 16) (x : BitVec 5) (seq : BitVec 2) :
    Statement (.frameSum8 r addr len x seq) := by
  have := len.isLt
  simp [Statement, encode, headerBytes, Instr.isCommand, Instr.declaredLength,
    BitVec.extractLsb'_toNat, Nat.shiftRight_eq_div_pow]
  omega

theorem frameCrc16 (r : BitVec 1) (addr : BitVec 7) (len : BitVec 16) (x : BitVec 5) (seq : BitVec 2) :
    Statement (.frameCrc16 r addr len x seq) := by
  have := len.isLt
  simp [Statement, encode, headerBytes, Instr.isCommand, Instr.declaredLength,
    BitVec.extractLsb'_toNat, Nat.shiftRight_eq_div_pow]
  omega

end Sys2Proof.Laws.EncodedFields
end

