-- ==== Sys2Proof/Laws/Run.lean ====
section
/-! SUPPORT. Runs of several turns: SEQ's turns on an agenda that holds them. -/

namespace Sys2Proof.Machine

@[simp] theorem runTurns_zero (s : State) : runTurns 0 s = .next s := rfl

/-- The first step of a run. -/
theorem runTurns_step (k : Nat) (s : State) : runTurns (k + 1) s =
    match step s with
    | .next t => runTurns k t
    | .fault r => .fault r
    | .refused r => .refused r := by
  simp only [runTurns, Host.Core.run]
  cases h : step s with
  | next t => rw [show Sys2Proof.core.step s = .next t from h]
  | fault r => rw [show Sys2Proof.core.step s = .fault r from h]; rfl
  | refused r => rw [show Sys2Proof.core.step s = .refused r from h]; rfl

/-- A run begins with one step. -/
theorem runTurns_succ {k : Nat} {s t : State} (h : step s = .next t) :
    runTurns (k + 1) s = runTurns k t := by
  rw [runTurns_step, h]

/-- A run may be cut in two. -/
theorem runTurns_add {j k : Nat} {s t : State} (h : runTurns j s = .next t) :
    runTurns (j + k) s = runTurns k t := by
  induction j generalizing s with
  | zero => cases h; rw [Nat.zero_add]
  | succ j ih =>
    rw [Nat.succ_add]
    cases hs : step s with
    | next s' => rw [runTurns_succ hs] at h ⊢; exact ih h
    | fault r => rw [runTurns_step, hs] at h; cases h
    | refused r => rw [runTurns_step, hs] at h; cases h

/-- With SEQ's turn first on the agenda the step is SEQ's. -/
theorem step_seq {s : State} {rest : List Event} (h : s.agenda = .seq :: rest) :
    step s = seqTurn { s with agenda := rest } := by
  simp [step, nextTurn, State.afterTurn, h, perform]

/-- A SEQ turn that moves. -/
theorem step_seq_moved {s t : State} {rest : List Event} (h : s.agenda = .seq :: rest)
    (hm : seqStep { s with agenda := rest } = .moved t) : step s = .next t := by
  rw [step_seq h, seqTurn, hm]

/-- SEQ's turns at the head of an agenda. -/
theorem replicate_seq_succ (n : Nat) (rest : List Event) :
    List.replicate (n + 1) Event.seq ++ rest = .seq :: (List.replicate n .seq ++ rest) := rfl

/-- RXSCAN drops bytes other than the introducer, one a turn, and changes nothing else. -/
theorem runTurns_scan {s : State} {rest : List Event} {noise more : List Byte} (hb : s.busy = true)
    (hp : s.ph = .rxScan) (hn : Config.introducer ∉ noise) (hf : s.rxfifo = noise ++ more)
    (ha : s.agenda = List.replicate noise.length .seq ++ rest) :
    runTurns noise.length s = .next { s with agenda := rest, rxfifo := more } := by
  induction noise generalizing s with
  | nil => simp at hf ha; simp [← hf, ← ha]
  | cons b noise ih =>
    have hne : b ≠ Config.introducer := fun h => hn (h ▸ List.mem_cons_self)
    rw [List.length_cons, runTurns_succ (t := { s with
      agenda := List.replicate noise.length .seq ++ rest, rxfifo := noise ++ more })]
    · exact ih hb hp (fun h => hn (List.mem_cons_of_mem _ h)) rfl rfl
    · apply step_seq_moved (replicate_seq_succ _ rest ▸ ha)
      simp [seqStep, hb, hp, seqReceive, hf, seqRxScan, hne]

end Sys2Proof.Machine
end

