-- ==== Sys2Proof/Laws/Slave.lean ====
section
/-! SUPPORT. The slave transitions as arithmetic, and what an instruction can do to the slave table. -/

namespace Sys2Proof.Machine

theorem nextSeq_toNat (q : BitVec 2) : (nextSeq q).toNat = q.toNat % 3 + 1 := by
  simp [nextSeq]
  omega

theorem retryUp_toNat (r : BitVec 8) : (retryUp r).toNat = min (r.toNat + 1) 255 := by
  simp [retryUp]

theorem online_eq (N : BitVec 8) (S : Slot) :
    S.online N = decide (S.retry.toNat < N.toNat) := by
  simp [Slot.online, BitVec.lt_def]

theorem nakCrosses_eq (N : BitVec 8) (S : Slot) : S.nakCrosses N =
    decide (S.retry.toNat < N.toNat ∧ N.toNat ≤ min (S.retry.toNat + 1) 255) := by
  simp [Slot.nakCrosses, online_eq, BitVec.le_def, retryUp_toNat]

theorem nakBacksOff_eq (N : BitVec 8) (S : Slot) :
    S.nakBacksOff N = decide (min (S.retry.toNat + 1) 255 < N.toNat) := by
  simp only [Slot.nakBacksOff, nakCrosses_eq, BitVec.lt_def, retryUp_toNat]
  by_cases h : min (S.retry.toNat + 1) 255 < N.toNat
  · simp [h]
    omega
  · simp [h]

/-- A slot command's operands name a slot of the table, and b is 0. -/
theorem slotOnly_some {a : BitVec 8} {b : BitVec 16} {s : State} {S : Slot}
    (h : Operands.slotOnly a b s = some S) : b = 0 ∧ s.slaves[a.toNat]? = some S := by
  rw [Operands.slotOnly_eq] at h
  split at h
  · rename_i hb; exact ⟨hb, h⟩
  · cases h

theorem slotFlag_some {a : BitVec 8} {b : BitVec 16} {s : State} {S : Slot} {e : Bool}
    (h : Operands.slotFlag a b s = some (S, e)) : s.slaves[a.toNat]? = some S := by
  rw [Operands.slotFlag_eq] at h
  split at h
  · rw [Option.map_eq_some_iff] at h
    obtain ⟨x, hx, he⟩ := h
    cases he
    exact hx
  · cases h

theorem slotPair_some {a : BitVec 8} {b : BitVec 16} {s : State} {S : Slot} {q : BitVec 2}
    (h : Operands.slotPair a b s = some (S, q)) : s.slaves[a.toNat]? = some S := by
  rw [Operands.slotPair_eq] at h
  split at h
  · rw [Option.map_eq_some_iff] at h
    obtain ⟨x, hx, he⟩ := h
    cases he
    exact hx
  · cases h

theorem slotConfig_some {a : BitVec 8} {b : BitVec 16} {s : State} {S : Slot}
    (h : Operands.slotConfig a b s = some S) : ∃ old, s.slaves[a.toNat]? = some old ∧
      S = { Slot.reset with addr := BitVec.ofNat 7 b.toNat, undef := b.getLsbD 7, en := b.getLsbD 8 } := by
  rw [Operands.slotConfig_eq] at h
  split at h
  · rw [Option.map_eq_some_iff] at h
    obtain ⟨x, hx, he⟩ := h
    exact ⟨x, hx, he.symm⟩
  · cases h

/-- What an instruction does to slot a, from `old` to `new`. -/
def SlotChange (i : Instr) (a : BitVec 8) (s : State) (old new : Slot) : Prop :=
  (∃ b, i = .slcfg a b ∧ new =
    { Slot.reset with addr := BitVec.ofNat 7 b.toNat, undef := b.getLsbD 7, en := b.getLsbD 8 }) ∨
  (∃ b e, i = .slen a b ∧ new = { old with en := e }) ∨
  (∃ b, i = .slack a b ∧ new = old.ack) ∨
  (∃ b, i = .slnak a b ∧ new = old.nak s.cfg.maxRetry (s.nowPlus Config.backoffUs)) ∨
  (∃ b, i = .slnakr a b ∧
    new = { old.nak s.cfg.maxRetry (s.nowPlus Config.backoffUs) with txseq := 0#2 }) ∨
  (∃ b, i = .sltkl a b ∧ new = { old with reacq := s.nowPlus Config.reacqUs }) ∨
  (∃ b q, i = .slsrx a b ∧ new = { old with rxseq := q })

/-- The slave table is as before, or one slot has changed as the command says. -/
def SlavesAfter (i : Instr) (s t : State) : Prop :=
  t.slaves = s.slaves ∨ ∃ a old new, s.slaves[a.toNat]? = some old ∧
    t.slaves = s.slaves.set a.toNat new ∧ SlotChange i a s old new

/-- Everything an instruction can do to the slave table: nothing, or one slot's change by a slave
command. -/
theorem exec_slaves {i : Instr} {s t : State} (h : exec i s = .next t) : SlavesAfter i s t := by
  have none : ∀ c : ResultCode, SlavesAfter i s (s.refuse c) := fun _ => .inl rfl
  cases i with
  | frameSum8 r addr len x seq => cases h; exact .inl (evaluateHeader_seqFrame ..).slaves
  | frameCrc16 r addr len x seq => cases h; exact .inl (evaluateHeader_seqFrame ..).slaves
  | rxrd a b =>
    cases h
    refine withOperands_ind (P := SlavesAfter _ s) (none _) fun i _ => ?_
    split
    · exact none _
    · exact withOperands_ind (P := SlavesAfter _ s) (none _) fun _ _ => .inl rfl
  | wrframe a b | resend a b | rdframe a b | idlewait a b | rxflush a b =>
    cases h
    refine withOperands_ind (P := SlavesAfter _ s) (none _) fun _ _ =>
      whenOpen_ind (P := SlavesAfter _ s) (none _) fun _ => .inl ?_
    first | rfl | (split <;> rfl) | simp
  | slcfg a b =>
    cases h
    refine withOperands_ind (P := SlavesAfter _ s) (none _) fun S hS => ?_
    obtain ⟨old, ho, hn⟩ := slotConfig_some hS
    exact .inr ⟨a, old, S, ho, rfl, .inl ⟨b, rfl, hn⟩⟩
  | slen a b =>
    cases h
    refine withOperands_ind (P := SlavesAfter _ s) (none _) fun ⟨S, e⟩ hS => ?_
    exact .inr ⟨a, S, _, slotFlag_some hS, rfl, .inr (.inl ⟨b, e, rfl, rfl⟩)⟩
  | slack a b =>
    cases h
    refine withOperands_ind (P := SlavesAfter _ s) (none _) fun S hS => ?_
    exact .inr ⟨a, S, _, (slotOnly_some hS).2, rfl, .inr (.inr (.inl ⟨b, rfl, rfl⟩))⟩
  | slnak a b =>
    cases h
    refine withOperands_ind (P := SlavesAfter _ s) (none _) fun S hS => ?_
    exact .inr ⟨a, S, _, (slotOnly_some hS).2, rfl, .inr (.inr (.inr (.inl ⟨b, rfl, rfl⟩)))⟩
  | slnakr a b =>
    cases h
    refine withOperands_ind (P := SlavesAfter _ s) (none _) fun S hS => ?_
    exact .inr ⟨a, S, _, (slotOnly_some hS).2, rfl, .inr (.inr (.inr (.inr (.inl ⟨b, rfl, rfl⟩))))⟩
  | sltkl a b =>
    cases h
    refine withOperands_ind (P := SlavesAfter _ s) (none _) fun S hS => ?_
    exact .inr ⟨a, S, _, (slotOnly_some hS).2, rfl,
      .inr (.inr (.inr (.inr (.inr (.inl ⟨b, rfl, rfl⟩)))))⟩
  | slsrx a b =>
    cases h
    refine withOperands_ind (P := SlavesAfter _ s) (none _) fun ⟨S, q⟩ hS => ?_
    exact .inr ⟨a, S, _, slotPair_some hS, rfl,
      .inr (.inr (.inr (.inr (.inr (.inr ⟨b, q, rfl, rfl⟩)))))⟩
  | _ a b =>
    cases h
    refine withOperands_ind (P := SlavesAfter _ s) (none _) fun _ _ => .inl ?_
    first | rfl | (split <;> rfl)

end Sys2Proof.Machine
end

