-- ==== Sys2Proof/Tests/Slice0.lean ====
section
/-! SUPPORT. Tests: the checks of WellFormed, one decoded word per instruction, at most two small steps
per instruction. Expected values are those of spec/95_test_vectors.md or worked from the rule named.
`base` is the reset state with the parameters that file uses. -/

namespace Sys2Proof.Tests

open Sys2Proof.Machine

/-- Reset with CRC_SEED = 0x1D0F, PAY_CAP = 250, RX_CAP = 257, NSLAVES = 4. -/
def base : State := State.resetFor ⟨0x1D0F#16, 250, 257, 4⟩

/-- The same with the link open. -/
def opened : State := { base with linkOpen := true }

/-- A state with slot 0 replaced. -/
def slot0 (S : Slot) (s : State) : State := { s with slaves := s.slaves.set 0 S }

/-- The next state, if there is one. -/
def nextOf : Host.Outcome State Fault Refusal → Option State
  | .next s => some s
  | .fault _ => none
  | .refused _ => none

/-- RES and RESULT after an instruction. -/
def outcome (i : Instr) (s : State) : Option (ResultCode × Word) :=
  (nextOf (exec i s)).map fun t => (t.res, t.result)

/-! ### WellFormed -/

theorem test_wf_accepts : (Instr.slcfg 3 0x1FF).wellFormed 4 = true := by decide
theorem test_wf_operand_a : (Instr.ckfin 1 0).wellFormed 4 = false := by decide
theorem test_wf_operand_a_bits : (Instr.ckfin 1 0).operandBitsOk = false := by decide
theorem test_wf_operand_b : (Instr.slcfg 0 0x200).operandBitsOk = false := by decide
theorem test_wf_slot : (Instr.slack 4 0).slotOk 4 = false := by decide
theorem test_wf_slot_refused : (Instr.slack 4 0).wellFormed 4 = false := by decide
theorem test_wf_length_sum8 : (Instr.frameSum8 0 1 5 0 0).lengthOk = false := by decide
theorem test_wf_length_crc16 : (Instr.frameCrc16 0 1 6 0 0).wellFormed 4 = false := by decide

/-! ### Decoding: words written from 30_encoding.md R123 to R125 and R139 -/

theorem test_decode_checksum :
    decodeCommand 0x0000000000010010 = .ok (.ckinit 0 1) ∧
    decodeCommand 0x000000000000FF11 = .ok (.ckfold 0xFF 0) ∧
    decodeCommand 0x0000000000000012 = .ok (.ckfin 0 0) ∧
    decodeCommand 0x00000000E5CC0013 = .ok (.ckvfy 0 0xE5CC) := by decide

theorem test_decode_encoder :
    decodeCommand 0x0000000000000020 = .ok (.txpclr 0 0) ∧
    decodeCommand 0x0000000000006021 = .ok (.txppush 0x60 0) ∧
    decodeCommand 0x0000000000021222 = .ok (.wrframe 0x12 2) ∧
    decodeCommand 0x0000000000000023 = .ok (.resend 0 0) := by decide

theorem test_decode_decoder :
    decodeCommand 0x0000000000000030 = .ok (.rdframe 0 0) ∧
    decodeCommand 0x0000000000010031 = .ok (.rxrd 0 1) ∧
    decodeCommand 0x0000000000000032 = .ok (.idlewait 0 0) ∧
    decodeCommand 0x0000000000000033 = .ok (.rxflush 0 0) := by decide

theorem test_decode_link :
    decodeCommand 0x0000000000000000 = .ok (.nop 0 0) ∧
    decodeCommand 0x0000000000000040 = .ok (.linkopen 0 0) ∧
    decodeCommand 0x0000000000000041 = .ok (.linkclose 0 0) := by decide

theorem test_decode_slave :
    decodeCommand 0x0000000001120150 = .ok (.slcfg 1 0x112) ∧
    decodeCommand 0x0000000000010251 = .ok (.slen 2 1) ∧
    decodeCommand 0x0000000000000152 = .ok (.slack 1 0) ∧
    decodeCommand 0x0000000000000153 = .ok (.slnak 1 0) ∧
    decodeCommand 0x0000000000000154 = .ok (.slnakr 1 0) ∧
    decodeCommand 0x0000000000000155 = .ok (.sltkl 1 0) ∧
    decodeCommand 0x0000000000000156 = .ok (.slqry 1 0) ∧
    decodeCommand 0x0000000000030157 = .ok (.slrd 1 3) ∧
    decodeCommand 0x0000000000020058 = .ok (.slsrx 0 2) := by decide

/-- Bytes in wire order: 0x53, reserved bit and address, length low, length high, control. -/
theorem test_decode_header :
    decodeHeader [0b01010011, 0b10000101, 0b00000111, 0b00000001, 0b10110010]
      = .ok (.frameSum8 1 5 0x0107 0b10110 2) ∧
    decodeHeader [0b01010011, 0b00010010, 0b00001010, 0b00000000, 0b00000101]
      = .ok (.frameCrc16 0 0x12 10 0 1) := by decide

theorem test_decode_refuses :
    decodeCommand 0x0000000000000099 = .error .unassignedOp ∧
    decodeCommand 0x0000000100000000 = .error .reservedBits ∧
    decodeHeader [0x54, 0, 7, 0, 4] = .error .noIntroducer ∧
    decodeHeader [0x53, 0, 7, 0] = .error .notFiveBytes := by decide

theorem test_decode_table :
    decodeTableWord 32 0x00010522 = some (.wrframe 0x05 1) ∧
    decodeTableWord 64 0x0000000001050050 = some (.slcfg 0 0x105) ∧
    decodeTableWord 40 0x0500088553 = some (.frameCrc16 1 5 8 0 1) := by decide

/-- What the host's check places is what the next step runs. -/
theorem test_fetch_command (s : State) :
    step (s.withFetchWord 32 0x00000052) =
      exec (.slack 0 0) { s with bus := .done, lastcmd := 0x52, busy := false, ph := .idle } := rfl

theorem test_fetch_header : ∃ s, step (State.reset.withFetchWord 40 0x0500088553) =
    exec (.frameCrc16 1 5 8 0 1) s ∧ s.rxbuf = [0x53, 0x85, 0x08, 0x00, 0x05] ∧ s.ph = .rxHdr :=
  ⟨_, rfl, rfl, rfl⟩

/-! ### Checksum -/

theorem test_ckinit : outcome (.ckinit 0 1) base = some (.ok, 0x1D0F) := by decide +kernel
theorem test_ckinit_reserved : outcome (.ckinit 0 2) base = some (.badArg, 0) := by decide +kernel
theorem test_ckfold : outcome (.ckfold 0x53 0) { base with mode := true, acc := 0x1D0F } =
    some (.ok, 0xA60A) := by decide +kernel
theorem test_ckfold_sum : outcome (.ckfold 0x02 0) { base with acc := 0xFF } = some (.ok, 0x01) := by
  decide +kernel
theorem test_ckfin : outcome (.ckfin 0 0) { base with acc := 0xE5CC } = some (.ok, 0xE5CC) := by
  decide +kernel
theorem test_ckfin_operand : outcome (.ckfin 1 0) base = some (.badArg, 0) := by decide +kernel
theorem test_ckvfy : outcome (.ckvfy 0 0xDD) { base with acc := 0xDD } = some (.ok, 1) := by
  decide +kernel
theorem test_ckvfy_high : outcome (.ckvfy 0 0x1DD) { base with acc := 0xDD } = some (.ok, 0) := by
  decide +kernel

/-! ### Frame encoder -/

theorem test_txpclr : (nextOf (exec (.txpclr 0 0) { base with txpay := [1, 2] })).map (·.txpay) =
    some [] := by decide +kernel
theorem test_txpclr_operand : outcome (.txpclr 0 1) base = some (.badArg, 0) := by decide +kernel
theorem test_txppush : (nextOf (exec (.txppush 0x61 0) { base with txpay := [0x60] })).map
    (fun t => (t.txpay, t.result)) = some ([0x60, 0x61], 2) := by decide +kernel
theorem test_txppush_full :
    outcome (.txppush 0 0) { base with txpay := List.replicate 250 0 } = some (.badArg, 0) := by
  decide +kernel
/-- Vector E7. -/
theorem test_wrframe :
    (nextOf (exec (.wrframe 0x85 0)
      { opened with txpay := [0x60], cfg := { base.cfg with lead := 2, trail := 1 } })).map
      (fun t => (t.txbuf, t.ph, t.res)) =
    some ([0xFF, 0xFF, 0x53, 0x05, 0x08, 0x00, 0x04, 0x60, 0xBC, 0x89, 0xFF], .txWait, .pending) := by
  decide +kernel
theorem test_wrframe_closed : outcome (.wrframe 5 1) base = some (.badState, 0) := by decide +kernel
theorem test_resend : (nextOf (exec (.resend 0 0) { opened with
    txvalid := true, txbuf := [0x53], txpos := 1 })).map (fun t => (t.txbuf, t.txpos, t.busy)) =
    some ([0x53], 0, true) := by decide +kernel
theorem test_resend_none : outcome (.resend 0 0) opened = some (.noFrame, 0) := by decide +kernel

/-! ### Frame decoder -/

/-- P2 line 17: DL = 205000. -/
theorem test_rdframe : (nextOf (exec (.rdframe 0 0) { opened with
    now := 5000, rxvalid := true, rxbuf := [1], cfg := { base.cfg with rdTimeout := 200000 } })).map
      (fun t => (t.dl, t.rxvalid, t.rxbuf, t.ph)) = some (205000, false, [], .rxScan) := by
  decide +kernel
theorem test_rdframe_closed : outcome (.rdframe 0 0) base = some (.badState, 0) := by decide +kernel
theorem test_rxrd : outcome (.rxrd 0 1) { base with
    rxvalid := true, rxlen := 2, rxbuf := [0x53, 1, 8, 0, 0, 0x99, 0x53, 0] } = some (.ok, 0x53) := by
  decide +kernel
theorem test_rxrd_past : outcome (.rxrd 0 2) { base with
    rxvalid := true, rxlen := 2, rxbuf := [0x53, 1, 8, 0, 0, 0x99, 0x53, 0] } = some (.badArg, 0) := by
  decide +kernel
theorem test_idlewait : (nextOf (exec (.idlewait 0 0) { opened with now := 7, disc := 3 })).map
    (fun t => (t.t0, t.disc, t.ph, t.busy)) = some (7, 0, .idleWt, true) := by decide +kernel
theorem test_idlewait_order : outcome (.idlewait 1 0) base = some (.badArg, 0) := by decide +kernel
theorem test_rxflush : (nextOf (exec (.rxflush 0 0) { opened with now := 9, rxfifo := [1, 2] })).map
    (fun t => (t.result, t.rxfifo, t.rxts)) = some (2, [], 9) := by decide +kernel
theorem test_rxflush_empty : (nextOf (exec (.rxflush 0 0) { opened with now := 9 })).map
    (fun t => (t.result, t.rxts)) = some (0, 0) := by decide +kernel

/-- Vector D7a: length 6 in CRC mode is BADLEN. -/
theorem test_frameCrc16 : (nextOf (exec (.frameCrc16 0 1 6 0 0) opened)).map
    (fun t => (t.res, t.rxflen, t.rxctrl)) = some (.badLen, 6, 4) := by decide +kernel
/-- Vector D6: length 258 exceeds RX_CAP. -/
theorem test_frameCrc16_long : (nextOf (exec (.frameCrc16 0 1 0x102 0 1) opened)).map
    (fun t => (t.res, t.rxvalid)) = some (.overflow, false) := by decide +kernel
theorem test_frameSum8 : (nextOf (exec (.frameSum8 1 5 7 0 1) { opened with busy := true })).map
    (fun t => (t.ph, t.rxaddr, t.rxctrl)) = some (.rxBody, 0x85, 0x01) := by decide +kernel
/-- A frame for another station: the engine of the fly-by check starts from the five header bytes. -/
theorem test_frameSum8_flyby : (nextOf (exec (.frameSum8 0 5 7 0 1)
    { opened with cfg := { base.cfg with listenAll := false, station := 6 } })).map
      (fun t => (t.ph, t.fb)) = some (.fbBody, ⟨0x60, 5, 7, false, false⟩) := by decide +kernel

/-! ### Link -/

theorem test_nop : (nextOf (exec (.nop 0 0) { base with result := 5, acc := 3 })).map
    (fun t => (t.result, t.acc)) = some (0, 3) := by decide +kernel
theorem test_nop_operand : outcome (.nop 1 0) base = some (.badArg, 0) := by decide +kernel
theorem test_linkopen : (nextOf (exec (.linkopen 0 0) { base with txvalid := true })).map
    (fun t => (t.linkOpen, t.txvalid)) = some (true, false) := by decide +kernel
theorem test_linkopen_again : outcome (.linkopen 0 0) opened = some (.badState, 0) := by
  decide +kernel
theorem test_linkclose : (nextOf (exec (.linkclose 0 0) { opened with rxfifo := [1] })).map
    (fun t => (t.linkOpen, t.rxfifo, t.res)) = some (false, [], .ok) := by decide +kernel
theorem test_linkclose_again : outcome (.linkclose 0 0) base = some (.ok, 0) := by decide +kernel

/-! ### Slave table: vectors of 2.5, MAXRETRY = 3 -/

/-- Slot 0 as SLCFG 0, 0x105 leaves it, RETRY and TXSEQ given, MAXRETRY = 3. -/
def polled (retry : BitVec 8) (txseq : BitVec 2) : State :=
  slot0 { Slot.reset with addr := 5, undef := false, en := true, retry := retry, txseq := txseq }
    { base with cfg := { base.cfg with maxRetry := 3 } }

theorem test_slcfg : (nextOf (exec (.slcfg 0 0x105) (polled 1 2))).map (·.slaves[0]?) =
    some (some ⟨5, false, true, 0, 0, 255, 0, 0⟩) := by decide +kernel
theorem test_slcfg_slot : outcome (.slcfg 4 0x105) base = some (.badArg, 0) := by decide +kernel
theorem test_slen : (nextOf (exec (.slen 0 0) (polled 0 2))).map (·.slaves[0]?.map (·.en)) =
    some (some false) := by decide +kernel
theorem test_slen_reserved : outcome (.slen 0 2) base = some (.badArg, 0) := by decide +kernel
theorem test_slack : outcome (.slack 0 0) (polled 4 2) = some (.ok, 0x301) := by decide +kernel
theorem test_slack_online : outcome (.slack 0 0) (polled 2 0) = some (.ok, 0x100) := by
  decide +kernel
theorem test_slnak : outcome (.slnak 0 0) (polled 2 2) = some (.ok, 0x30202) := by decide +kernel
theorem test_slnak_backoff : (nextOf (exec (.slnak 0 0) { polled 0 2 with now := 5021000 })).map
    (fun t => (t.result, t.slaves[0]?.map (·.backoff))) = some (0x10204, some 5031000) := by
  decide +kernel
theorem test_slnakr : outcome (.slnakr 0 0) (polled 1 3) = some (.ok, 0x20004) := by decide +kernel
theorem test_slnakr_saturates : outcome (.slnakr 0 0) (polled 255 3) = some (.ok, 0xFF0000) := by
  decide +kernel
theorem test_sltkl : outcome (.sltkl 0 0) { polled 255 0 with now := 1000 } =
    some (.ok, 0x4C4F28) := by decide +kernel
theorem test_sltkl_slot : outcome (.sltkl 4 0) base = some (.badArg, 0) := by decide +kernel
theorem test_slqry : outcome (.slqry 0 0) (polled 2 0) = some (.ok, 5) := by decide +kernel
theorem test_slqry_offline : outcome (.slqry 0 0) (polled 3 0) = some (.ok, 3) := by decide +kernel
theorem test_slrd : outcome (.slrd 0 0) (polled 0 2) = some (.ok, 0x2505) := by decide +kernel
theorem test_slrd_reset : outcome (.slrd 0 1) base = some (.ok, 255) := by decide +kernel
theorem test_slsrx : (nextOf (exec (.slsrx 0 2) (polled 0 0))).map (·.slaves[0]?.map (·.rxseq)) =
    some (some 2) := by decide +kernel
theorem test_slsrx_reserved : outcome (.slsrx 0 4) base = some (.badArg, 0) := by decide +kernel

/-! ### Registers and the sequencer, one turn each -/

/-- STATUS after RDFRAME's issue is 0x00FF33 (2.3, "Common set-up"). -/
theorem test_status : regRead 0x08 { opened with busy := true, ph := .rxScan, res := .pending } =
    0x00FF33 := by decide +kernel
theorem test_rxinfo : regRead 0x70 { base with rxlen := 1, rxaddr := 0x85, rxctrl := 5, rxflen := 8 } =
    0x000805850001 := by decide +kernel
theorem test_cfg_ctl : regRead 0x48 base = 0x280 ∧
    regRead 0x48 (regWrite 0x48 0xFFFFFFFFFFFFFFFF base) = 0x3FF := by decide +kernel
theorem test_locked : regWrite 0x20 3 opened = { opened with wrerr := true } := by decide +kernel
/-- The last byte of frame E6 leaves; RESULT is TXLEN. -/
theorem test_tx_last : (nextOf (seqTurn { opened with
    busy := true, ph := .txShift, txvalid := true, txpos := 5,
    txbuf := [0x53, 0x7F, 0x06, 0x00, 0x03, 0xDB] })).map (fun t => (t.txline, t.result, t.ph)) =
    some ([0xDB], 6, .idle) := by decide +kernel
/-- Vector D2: the last byte of the sum8 reply. -/
theorem test_rx_last : (nextOf (seqTurn { opened with
    busy := true, ph := .rxBody, rxflen := 7, rxctrl := 1, rxaddr := 0x85, rxfifo := [0x20, 0xFF],
    rxbuf := [0x53, 0x85, 7, 0, 1, 0x40] })).map (fun t => (t.res, t.result, t.rxfifo)) =
    some (.ok, 1, [0xFF]) := by decide +kernel
/-- The frame round trip on vector E5. -/
theorem test_frame : frameBytes 0x1D0F 0x7F 3 true [] = [0x53, 0x7F, 7, 0, 7, 0xC2, 0x69] := by
  decide +kernel

/-! ### Witnesses: for each statement with hypotheses, data that meets them all together -/

theorem base_params : base.par.Ok :=
  ⟨by decide, by decide, by decide, by decide, by decide, by decide, by decide⟩

/-- The end of vector D1: the validated frame ACK1, one payload byte. -/
def received : State := { opened with
  now := 1000, rxts := 1000, rxvalid := true, rxlen := 1, rxaddr := 0x85, rxctrl := 5, rxflen := 8
  rxbuf := [0x53, 0x85, 8, 0, 5, 0x40, 0x3F, 0xBC], rxfifo := [0xFF, 0xFF], result := 1 }

/-- WRFRAME of vector E1 past the turnaround: its first byte is the next to leave. -/
def sending : State := { opened with
  busy := true, ph := .txShift, res := .pending, txvalid := true
  txbuf := txBytes 0x1D0F 0 0 5 1 true [0x60] }

/-- An RDFRAME in RXSCAN whose deadline has come, at a time other than RXTS. -/
def scanning : State := { opened with busy := true, ph := .rxScan, res := .pending, now := 10 }

/-- An RDFRAME in RXHDR with four header bytes collected and the fifth waiting. -/
def lastHeaderByte : State := { opened with
  busy := true, ph := .rxHdr, res := .pending, agenda := [.seq]
  rxbuf := [0x53, 0x85, 8, 0], rxfifo := [5, 0x40] }

/-- An IDLEWAIT that has discarded two bytes, at a time other than RXTS. -/
def quiet : State := { opened with
  busy := true, ph := .idleWt, res := .pending, now := 10, t0 := 10, disc := 2 }

theorem witness_inv_base : base.Inv := by
  constructor
  case params => exact base_params
  case retained => exact fun h => absurd h (by decide)
  all_goals decide +kernel

theorem witness_inv_received : received.Inv := by
  constructor
  case params => exact base_params
  case retained => exact fun h => absurd h (by decide)
  all_goals decide +kernel

theorem witness_inv_sending : sending.Inv := by
  constructor
  case params => exact base_params
  case retained => exact fun _ => ⟨0, 0, 5, 1, true, [0x60], by decide, by decide, by decide, rfl⟩
  all_goals decide +kernel

/-- The last instant of the premise on NOW. -/
theorem witness_inv_last_instant :
    ({ base with now := 0xFFFFFFFDFFFFFFFF, agenda := [.tick 1] } : State).Inv := by
  constructor
  case params => exact base_params
  case retained => exact fun h => absurd h (by decide)
  all_goals decide +kernel

/-! Encodings and the step. -/

theorem witness_EncodeDecodeAgree :
    decode (.command 0x10522) = .ok (.wrframe 0x05 1) ∧
    decode (.header [0x53, 0x85, 8, 0, 5]) = .ok (.frameCrc16 1 5 8 0 1) := by decide

theorem witness_StepRunsDecodedCommand :
    (base.withCommand 0x52).agenda = .write 0 8 0x52 :: [] ∧ (base.withCommand 0x52).busy = false ∧
    decodeCommand 0x52 = .ok (.slack 0 0) := by decide

theorem witness_StepRunsReceivedHeader :
    lastHeaderByte.agenda = .seq :: [] ∧ lastHeaderByte.busy = true ∧ lastHeaderByte.ph = .rxHdr ∧
    lastHeaderByte.rxfifo = 5 :: [0x40] ∧ lastHeaderByte.rxbuf.length = 4 ∧
    decodeHeader (lastHeaderByte.rxbuf ++ [5]) = .ok (.frameCrc16 1 5 8 0 1) := by decide +kernel

/-- Bit 32 alone, and the first op after the table's last. -/
theorem witness_IllegalCommandRaisesBadCmd :
    (base.withCommand 0x100000000).agenda = .write 0 8 0x100000000 :: [] ∧
    (base.withCommand 0x100000000).busy = false ∧ (0x100000000#64).toNat / 2 ^ 32 ≠ 0 ∧
    (base.withCommand 0x59).agenda = .write 0 8 0x59 :: [] ∧ (base.withCommand 0x59).busy = false ∧
    (0x59#64).toNat % 2 ^ 8 = 0x59 := by decide +kernel

/-- Also the witness of the last clause of NopOnlyCompletes. -/
theorem witness_CommandWhileBusyDropped :
    ({ scanning with agenda := [.write 0 8 0] } : State).agenda = .write 0 8 0 :: [] ∧
    ({ scanning with agenda := [.write 0 8 0] } : State).busy = true := by decide

theorem witness_IllFormedCommandRaisesBadArg :
    (Instr.slack 4 0).isCommand = true ∧ base.slaves.length = base.par.nslaves ∧
    (Instr.slack 4 0).wellFormed base.par.nslaves = false ∧
    (Instr.nop 1 0).isCommand = true ∧ (Instr.nop 1 0).wellFormed base.par.nslaves = false := by
  decide

/-! Commands. -/

theorem witness_CkfinCkvfyReadTheEngine : (0xFF#16).toNat < 256 ∧
    base.Inv ∧ base.mode = false ∧ 256 ≤ (256#16).toNat :=
  ⟨by decide, witness_inv_base, rfl, by decide⟩

/-- A sum, its accumulator at the bound, and a CRC. -/
theorem witness_CkfoldFoldsOneByte :
    ({ base with acc := 0xFF } : State).mode = false ∧ ({ base with acc := 0xFF } : State).acc.toNat < 256 ∧
    ({ base with mode := true } : State).mode = true := by decide

/-- Empty, one below the capacity, and full. -/
theorem witness_StagingBufferClearsAndAppends :
    base.txpay.length ≤ base.par.payCap ∧
    (List.replicate 249 0#8).length ≤ base.par.payCap ∧ (List.replicate 249 0#8).length ≠ base.par.payCap ∧
    (List.replicate 250 0#8).length = base.par.payCap := by decide +kernel

/-- The last payload byte, and the first index past it. -/
theorem witness_RxrdReadsThePayload : received.Inv ∧
    (received.rxvalid = true ∧ (0#16).toNat < received.rxlen.toNat) ∧
    ¬(1#16).toNat < received.rxlen.toNat :=
  ⟨witness_inv_received, by decide +kernel, by decide +kernel⟩

/-- For every statement about the slave commands: the last slot and the greatest b are in range, the
next ones are not. -/
theorem witness_slot_ranges : base.slaves.length = base.par.nslaves ∧
    (3#8).toNat < base.par.nslaves ∧ ¬(4#8).toNat < base.par.nslaves ∧
    (0x1FF#16).toNat < 2 ^ 9 ∧ ¬(0x200#16).toNat < 2 ^ 9 ∧
    (1#16).toNat ≤ 1 ∧ ¬(2#16).toNat ≤ 1 ∧ (3#16).toNat ≤ 3 ∧ ¬(4#16).toNat ≤ 3 ∧
    (0#16 = 0) ∧ ¬(1#16 = 0) := by decide +kernel

/-! Functions and registers. -/

theorem witness_SingleBitFlipDetected : 0 < 8 ∧ 7 < 8 := by decide

theorem witness_RegisterReadMap :
    ({ base with agenda := [.read 0xF8 8] } : State).agenda = .read 0xF8 8 :: [] ∧
    0xF8 % 8 = 0 ∧ 0xF8 < 0x100 ∧
    ({ base with agenda := [.read 0 8] } : State).agenda = .read 0 8 :: [] := by decide

theorem witness_RegisterWriteMap :
    ({ base with agenda := [.write 0xF8 8 1] } : State).agenda = .write 0xF8 8 1 :: [] ∧
    0xF8 % 8 = 0 ∧ 0xF8 < 0x100 ∧ 0xF8 ≠ 0 ∧
    ({ base with agenda := [.write 8 8 1] } : State).agenda = .write 8 8 1 :: [] ∧ 8 ≠ 0 := by decide

theorem witness_IllegalAccessIsBusError :
    ({ base with agenda := [.read 0x100 8] } : State).agenda = .read 0x100 8 :: [] ∧ ¬0x100 < 0x100 ∧
    ({ base with agenda := [.write 0 4 1] } : State).agenda = .write 0 4 1 :: [] ∧ ¬4 = 8 ∧
    ({ base with agenda := [.write 0x0C 8 1] } : State).agenda = .write 0x0C 8 1 :: [] ∧
    ¬0x0C % 8 = 0 := by decide

/-! The environment. -/

/-- Closed; open and idle; transmitting; waiting for idle; receiving. -/
theorem witness_LineFaultClosesAndEndsCommand :
    (base.busy = true ↔ base.ph ≠ .idle) ∧ base.linkOpen = false ∧
    (opened.busy = true ↔ opened.ph ≠ .idle) ∧ opened.linkOpen = true ∧ opened.busy = false ∧
    (sending.busy = true ↔ sending.ph ≠ .idle) ∧ sending.ph = .txShift ∧
    (quiet.busy = true ↔ quiet.ph ≠ .idle) ∧ quiet.ph = .idleWt ∧
    (scanning.busy = true ↔ scanning.ph ≠ .idle) ∧ scanning.ph = .rxScan ∧
    ({ scanning with agenda := [.lineFault] } : State).agenda = .lineFault :: [] := by decide +kernel

/-- A byte; the least tick, and the last instant a tick may reach. -/
theorem witness_ArrivalsAndTicks :
    ({ opened with agenda := [.rxArrive 1] } : State).agenda = .rxArrive 1 :: [] ∧
    ({ base with agenda := [.tick 1] } : State).agenda = .tick 1 :: [] ∧ 1 ≤ 1 ∧
    base.now.toNat + 1 < 2 ^ 64 - 2 ^ 33 ∧
    ({ base with agenda := [.tick (2 ^ 64 - 2 ^ 33 - 1)] } : State).agenda =
      .tick (2 ^ 64 - 2 ^ 33 - 1) :: [] ∧ base.now.toNat + (2 ^ 64 - 2 ^ 33 - 1) < 2 ^ 64 - 2 ^ 33 := by
  decide +kernel

theorem witness_ResetValues : ∃ t,
    ({ State.reset with agenda := [.reset], linkOpen := true } : State).par = Config.params ∧
    step { State.reset with agenda := [.reset], linkOpen := true } = .next t :=
  ⟨_, rfl, rfl⟩

/-! The whole machine. -/

theorem witness_StepKeepsInv : ∃ t, received.Inv ∧ step { received with agenda := [.tick 1] } = .next t :=
  ⟨_, witness_inv_received, rfl⟩

/-- Both clauses: a next state, and the tick beyond the premise. -/
theorem witness_StepStopsOnlyBeyondTime :
    sending.Inv ∧ ({ base with now := 0xFFFFFFFDFFFFFFFF, agenda := [.tick 1] } : State).Inv ∧
    step { base with now := 0xFFFFFFFDFFFFFFFF, agenda := [.tick 1] } = .fault .timeBeyondPremise :=
  ⟨witness_inv_sending, witness_inv_last_instant, rfl⟩

theorem witness_inv_sending_turn : ({ sending with agenda := [.seq] } : State).Inv :=
  { witness_inv_sending with turnaround := witness_inv_sending.turnaround }

theorem witness_NothingSentBeforeTurnaround : ∃ t, ({ sending with agenda := [.seq] } : State).Inv ∧
    step { sending with agenda := [.seq] } = .next t ∧
    nextTurn { sending with agenda := [.seq] } ≠ .reset ∧ t.txline ≠ sending.txline :=
  ⟨_, witness_inv_sending_turn, rfl, by decide, by decide +kernel⟩

/-- A turn that is not reset answers a next state with a property. -/
def turnGives (s : State) (P : State → Prop) : Prop :=
  nextTurn s ≠ .reset ∧ ∃ t, step s = .next t ∧ P t

/-- Both clauses: a write while busy, and a write of a link register while the link is open. -/
theorem witness_ConfigurationIsLocked :
    (turnGives { scanning with agenda := [.write 0x50 8 1] } fun _ => scanning.busy = true) ∧
    (turnGives { opened with agenda := [.write 0x20 8 3] } fun _ => opened.linkOpen = true) :=
  ⟨⟨by decide, _, rfl, rfl⟩, ⟨by decide, _, rfl, rfl⟩⟩

/-- Its four cases. -/
theorem witness_RxtsWrittenOnlyOnReception :
    (turnGives { scanning with agenda := [.seq] } fun t => t.rxts ≠ scanning.rxts) ∧
    (turnGives { scanning with agenda := [.lineFault] } fun t => t.rxts ≠ scanning.rxts) ∧
    (turnGives { quiet with agenda := [.seq] } fun t => t.rxts ≠ quiet.rxts) ∧
    (turnGives { opened with now := 10, rxfifo := [1], agenda := [.write 0 8 0x33] } fun t =>
      t.rxts ≠ opened.rxts) :=
  ⟨⟨by decide, _, rfl, by decide +kernel⟩, ⟨by decide, _, rfl, by decide +kernel⟩,
    ⟨by decide, _, rfl, by decide +kernel⟩, ⟨by decide, _, rfl, by decide +kernel⟩⟩

theorem witness_OnlyTickMovesTime : ∃ t, step { base with agenda := [.tick 1] } = .next t ∧
    nextTurn { base with agenda := [.tick 1] } ≠ .reset ∧ t.now ≠ base.now :=
  ⟨_, rfl, by decide, by decide +kernel⟩

/-- Both commands. -/
theorem witness_OnlyChecksumCommandsWriteEngine :
    (turnGives { base with agenda := [.write 0 8 0x10010] } fun t =>
      t.acc ≠ base.acc ∧ t.mode ≠ base.mode) ∧
    (turnGives { base with agenda := [.write 0 8 0x5311] } fun t => t.acc ≠ base.acc) :=
  ⟨⟨by decide, _, rfl, by decide +kernel⟩, ⟨by decide, _, rfl, by decide +kernel⟩⟩

theorem witness_CodecIgnoresEngine : ∃ t, seqTurn lastHeaderByte = .next t := ⟨_, rfl⟩

/-- Its six clauses. -/
theorem witness_StickyFlagsSetAndCleared :
    (turnGives { scanning with agenda := [.write 0 8 0] } fun t =>
      scanning.cmdovr = false ∧ t.cmdovr = true) ∧
    (turnGives { opened with agenda := [.write 0x20 8 3] } fun t =>
      opened.wrerr = false ∧ t.wrerr = true) ∧
    (turnGives { opened with agenda := [.lineFault] } fun t =>
      opened.linkerr = false ∧ t.linkerr = true) ∧
    (turnGives { base with cmdovr := true, agenda := [.write 8 8 0x10000] } fun t =>
      t.cmdovr = false) ∧
    (turnGives { base with wrerr := true, agenda := [.write 8 8 0x20000] } fun t =>
      t.wrerr = false) ∧
    (turnGives { base with linkerr := true, agenda := [.write 8 8 0x40000] } fun t =>
      t.linkerr = false) :=
  ⟨⟨by decide, _, rfl, by decide +kernel⟩, ⟨by decide, _, rfl, by decide +kernel⟩,
    ⟨by decide, _, rfl, by decide +kernel⟩, ⟨by decide, _, rfl, by decide +kernel⟩,
    ⟨by decide, _, rfl, by decide +kernel⟩, ⟨by decide, _, rfl, by decide +kernel⟩⟩

/-- Both clauses; the second exactly at the deadline. -/
theorem witness_TimeoutNeverEarly :
    (∃ t, step { scanning with agenda := [.seq] } = .next t ∧ t.res = .timeout ∧
      scanning.res ≠ .timeout) ∧
    (let s : State := { scanning with dl := 10, agenda := [.seq] }
     s.agenda = .seq :: [] ∧ s.busy = true ∧ s.ph = .rxScan ∧ s.rxfifo = [] ∧
     s.dl.toNat ≤ s.now.toNat ∧ s.dl = s.now) :=
  ⟨⟨_, rfl, by decide +kernel, by decide +kernel⟩, by decide +kernel⟩

/-! Long commands. -/

/-- A frame that waits, its turnaround over at this very time. -/
def holding : State := { sending with
  ph := .txWait, now := 30, rxts := 10, cfg := { sending.cfg with postRxDelay := 20 } }

/-- Its three clauses. -/
theorem witness_TransmissionEmitsTheFrame :
    (holding.busy = true ∧ holding.ph = .txWait ∧
      holding.rxts.toNat + holding.cfg.postRxDelay.toNat = holding.now.toNat ∧
      holding.txpos < holding.txbuf.length ∧
      ({ holding with agenda := [.seq] } : State).agenda = .seq :: [] ∧
      ({ holding with agenda := List.replicate 9 .seq } : State).agenda =
        List.replicate (holding.txbuf.length - holding.txpos + 1) .seq ++ []) ∧
    sending.busy = true ∧ sending.ph = .txShift ∧ sending.txpos < sending.txbuf.length ∧
    ({ sending with agenda := List.replicate 8 .seq } : State).agenda =
      List.replicate (sending.txbuf.length - sending.txpos) .seq ++ [] := by decide +kernel

/-- The longest frame that fits RX_CAP = 257 has 250 payload bytes in CRC mode; here one. -/
theorem witness_FrameRoundTrip :
    let s : State := { scanning with
      rxfifo := [0x52, 0x54] ++ txBytes 0x1D0F 1 1 5 1 true [0x60], agenda := List.replicate 11 .seq }
    s.busy = true ∧ s.ph = .rxScan ∧ 0x53#8 ∉ [0x52#8, 0x54#8] ∧ (5#8).toNat ≤ 127 ∧
    s.cfg.listenAll = true ∧ 5 + 1 + 2 ≤ s.par.rxCap ∧ 5 + 250 + 2 = s.par.rxCap ∧
    s.par.rxCap ≤ 65535 ∧ s.rxfifo = [0x52, 0x54] ++ txBytes s.par.crcSeed 1 1 5 1 true [0x60] ∧
    s.agenda = List.replicate (2 + 1 + (5 + 1 + 2)) .seq ++ [] := by decide +kernel

/-- Receiving the body of the frame of 95_test_vectors.md, after n of its bytes. -/
def inBody (n : Nat) (next : Byte) : State :=
  { scanning with
    ph := .rxBody
    rxbuf := [0x53#8, 0x85#8, 0x08#8, 0x00#8, 0x05#8, 0x40#8, 0x3F#8].take n
    rxaddr := 0x85#8, rxctrl := 0x05#8, rxflen := 8#16
    rxfifo := [next], agenda := [.seq] }

theorem inBody_inv (n : Nat) (next : Byte)
    (h : (n, next) = (5, 0x40#8) ∨ (n, next) = (7, 0xBC#8) ∨ (n, next) = (7, 0xBD#8)) :
    (inBody n next).Inv := by
  simp only [Prod.mk.injEq] at h
  obtain ⟨rfl, rfl⟩ | ⟨rfl, rfl⟩ | ⟨rfl, rfl⟩ := h <;> constructor
  all_goals first | exact base_params | decide +kernel | exact fun h => absurd h (by decide)

/-- A byte in the middle, and the last byte, right and wrong. -/
theorem witness_BodyByteCollectsAndValidates :
    (inBody 5 0x40).Inv ∧ (inBody 7 0xBC).Inv ∧ (inBody 7 0xBD).Inv ∧
    (inBody 7 0xBC).agenda = .seq :: [] ∧ (inBody 7 0xBC).ph = .rxBody ∧
    (inBody 7 0xBC).rxfifo = 0xBC#8 :: [] :=
  ⟨inBody_inv 5 _ (.inl rfl), inBody_inv 7 _ (.inr (.inl rfl)), inBody_inv 7 _ (.inr (.inr rfl)),
    rfl, rfl, rfl⟩

/-- A foreign frame of length 6 whose header is taken and whose last byte waits. -/
def flownBy (m : Bool) : State := { scanning with
  ph := .fbBody, fb := ⟨ckRange 0x1D0F m [0x53, 1, 6, 0, if m then 4 else 0], 5, 6, m, false⟩
  rxfifo := [0x5B], agenda := [.seq] }

/-- Length 6 in both modes: the shortest sum frame, and too short for a CRC. -/
theorem witness_FlyByVerdictIsCkVerify :
    5 + 1 ≤ (6#16).toNat ∧ 5 < (6#16).toNat ∧ (6#16).toNat < 5 + 2 ∧ 5 + [0x5B#8].length = (6#16).toNat ∧
    ∀ m : Bool, (flownBy m).busy = true ∧ (flownBy m).ph = .fbBody ∧
      [0x53#8, 1, 6, 0, if m then 4 else 0].length = 5 ∧
      (flownBy m).fb =
        ⟨ckRange (flownBy m).par.crcSeed m [0x53, 1, 6, 0, if m then 4 else 0], 5, 6, m, false⟩ ∧
      (flownBy m).rxfifo = [0x5B] ++ [] ∧
      (flownBy m).agenda = List.replicate [0x5B#8].length .seq ++ [] := by decide +kernel

/-- Both clauses. -/
theorem witness_IdleWaitDiscardsThenCompletes :
    ({ quiet with rxfifo := [1], agenda := [.seq] } : State).rxfifo ≠ [] ∧
    ({ quiet with rxfifo := [1], agenda := [.seq] } : State).agenda = List.replicate 1 .seq ++ [] ∧
    quiet.busy = true ∧ quiet.ph = .idleWt ∧ quiet.rxfifo = [] ∧ quiet.t0 ≤ quiet.now ∧
    ({ quiet with agenda := [.seq] } : State).agenda = .seq :: [] := by decide +kernel

/-! Slaves. -/

theorem witness_SequenceCycles : (polled 0 0).slaves[(0#8).toNat]? =
    some ⟨5, false, true, 0, 0, 0, 0, 0⟩ ∧ 1 ≤ 1 := by decide +kernel

theorem witness_RetryThresholdIsExact : (polled 0 0).slaves[(0#8).toNat]? =
    some ⟨5, false, true, 0, 0, 0, 0, 0⟩ ∧ 1 ≤ (polled 0 0).cfg.maxRetry.toNat ∧
    [Instr.slnak 0 0, .slnakr 0 0] ≠ [] ∧
    ∀ i ∈ [Instr.slnak 0 0, .slnakr 0 0], i = .slnak 0 0 ∨ i = .slnakr 0 0 := by decide +kernel

/-- SLACK takes slot 0 Online; SLNAK, SLNAKR and SLCFG take it Offline. MAXRETRY stays 3. -/
theorem witness_ReachabilityChangesOnlyBySlaveCommands :
    (turnGives { polled 255 0 with agenda := [.write 0 8 0x52] } fun t => t.cfg.maxRetry = 3 ∧
      t.slaves[0]?.map (·.online 3) = some true ∧
      (polled 255 0).slaves[0]?.map (·.online 3) = some false) ∧
    (turnGives { polled 2 0 with agenda := [.write 0 8 0x53] } fun t => t.cfg.maxRetry = 3 ∧
      t.slaves[0]?.map (·.online 3) = some false ∧
      (polled 2 0).slaves[0]?.map (·.online 3) = some true) ∧
    (turnGives { polled 2 0 with agenda := [.write 0 8 0x54] } fun t => t.cfg.maxRetry = 3 ∧
      t.slaves[0]?.map (·.online 3) = some false) ∧
    (turnGives { polled 2 0 with agenda := [.write 0 8 0x1050050] } fun t => t.cfg.maxRetry = 3 ∧
      t.slaves[0]?.map (·.online 3) = some false) :=
  ⟨⟨by decide, _, rfl, by decide +kernel⟩, ⟨by decide, _, rfl, by decide +kernel⟩,
    ⟨by decide, _, rfl, by decide +kernel⟩, ⟨by decide, _, rfl, by decide +kernel⟩⟩

end Sys2Proof.Tests
end

section
/-! What holds at reset and what every turn keeps (10_state.md): the reset values, the invariants of
R67, and the parts of the state only named turns can write. -/

namespace Sys2Proof.Machine

/-! ### Reset -/

/-- The open parameters meet the constraints of 00_scope.md R8, whatever their values are. -/
theorem params_ok : Config.params.Ok := by
  have hseed := Config.crcSeedPred.isLt
  have hpay := Config.payCapExtra.isLt
  have hrx := Config.rxCapExtra.isLt
  have hslaves := Config.nslavesPred.isLt
  constructor
  case crcSeed_ne =>
    intro h0
    have hn := congrArg BitVec.toNat h0
    simp [Config.params] at hn
    omega
  all_goals
    simp only [Config.params]
    omega

theorem resetFor_quiet {p : Params} (hp : p.Ok) : (State.resetFor p).Quiet where
  params := hp
  slots := List.length_replicate
  closed_empty _ := rfl
  sum_small _ := Nat.zero_lt_succ _
  txpay_cap := Nat.zero_le _
  retained := nofun
  txpos_le := Nat.le_refl _
  validated := nofun
  rxbuf_cap := Nat.zero_le _
  now_bound := Nat.zero_lt_succ _
  rxts_past := BitVec.le_refl _
  t0_past := BitVec.le_refl _
  deadlines S hS := by
    obtain rfl := List.eq_of_mem_replicate hS
    simp [Slot.reset]

/-- Reset is a completion with OK of what it leaves: nothing runs after it. -/
theorem resetFor_inv {p : Params} (hp : p.Ok) : (State.resetFor p).Inv :=
  (resetFor_quiet hp).done 0

/-- The external reset answers the reset state with the turns to come kept. -/
theorem step_of_reset {s : State} (h : nextTurn s = .reset) :
    step s = .next
      { State.resetFor s.par with agenda := s.afterTurn.agenda, turn := s.afterTurn.turn } := by
  rw [step, h]
  simp only [perform, externalReset, State.afterTurn_par]

/-! ### What the invariant does not read -/

section Inv

variable {s : State}

/-- The record of the command, the sticky flags, the counters and the model's own fields take no part
in the invariant. -/
theorem State.Inv.setUnread (h : s.Inv) (result lastcmd : Word) (cmdovr wrerr linkerr : Bool)
    (cnt : Counters) (txline : List Byte) (bus : BusReply) (agenda : List Event) (turn : Nat) :
    ({ s with
        result := result, lastcmd := lastcmd, cmdovr := cmdovr, wrerr := wrerr, linkerr := linkerr,
        cnt := cnt, txline := txline, bus := bus, agenda := agenda, turn := turn } : State).Inv :=
  { h with turnaround := h.turnaround }

theorem State.Inv.afterTurn (h : s.Inv) : s.afterTurn.Inv := by
  rw [afterTurn_eq]
  exact h.setUnread ..

/-- With no command running the configuration takes no part in the invariant. -/
theorem State.Inv.setCfg (h : s.Inv) (hb : s.busy = false) (c : CfgRegs) :
    ({ s with cfg := c } : State).Inv :=
  { h with
    turnaround := fun hp => by
      have hne : s.ph ≠ .idle := by rw [show s.ph = .txShift from hp]; decide
      rw [h.busy_iff.2 hne] at hb
      cases hb }

/-- Bytes may leave RXFIFO. -/
theorem State.Inv.takeBytes (h : s.Inv) (hb : s.busy = true) (rest : List Byte) :
    ({ s with rxfifo := rest } : State).Inv :=
  { h with
    turnaround := h.turnaround
    closed_empty := fun hc => by rw [h.busy_open hb] at hc; cases hc }

/-! ### What the sound data of a state allow -/

/-- NOW + c is exact under the premise on NOW (10_state.md R32), for the fixed intervals. -/
theorem State.Quiet.nowPlus_toNat (h : s.Quiet) {c : Nat} (hc : c ≤ Config.reacqUs) :
    (s.nowPlus c).toNat = s.now.toNat + c := by
  have hn := h.now_bound
  simp only [Config.nowBound, Config.reacqUs] at hn hc
  rw [State.nowPlus, BitVec.toNat_ofNat, Nat.mod_eq_of_lt]
  omega

/-- The engine may take any value that is a sum in mode 0 (10_state.md R67 (c)). -/
theorem State.Quiet.setEngine (h : s.Quiet) {acc : BitVec 16} {mode : Bool}
    (hs : mode = false → acc.toNat < 256) : ({ s with acc := acc, mode := mode } : State).Quiet :=
  { h with sum_small := hs }

theorem State.Quiet.setTxpay (h : s.Quiet) {p : List Byte} (hp : p.length ≤ s.par.payCap) :
    ({ s with txpay := p } : State).Quiet :=
  { h with txpay_cap := hp }

/-- TXPOS may take any place in TXBUF or its end. -/
theorem State.Quiet.setTxpos (h : s.Quiet) {n : Nat} (hn : n ≤ s.txbuf.length) :
    ({ s with txpos := n } : State).Quiet :=
  { h with txpos_le := hn }

/-- A frame between its pads may be retained (41_frame_encode.md R194). -/
theorem State.Quiet.retain (h : s.Quiet) (lead trail : BitVec 8) (a : Byte) (q : BitVec 2) (m : Bool) :
    ({ s with
        txbuf := txBytes s.par.crcSeed lead.toNat trail.toNat a q m s.txpay
        txvalid := true
        txpos := 0 } : State).Quiet :=
  { h with
    retained := fun _ => ⟨_, _, _, _, _, _, Nat.le_of_lt_succ lead.isLt, Nat.le_of_lt_succ trail.isLt,
      h.txpay_cap, rfl⟩
    txpos_le := Nat.zero_le _ }

/-- Every retained frame has bytes to send. -/
theorem State.Quiet.txbuf_pos (h : s.Quiet) (hv : s.txvalid = true) : 0 < s.txbuf.length := by
  obtain ⟨lead, trail, a, q, m, p, -, -, -, hb⟩ := h.retained hv
  rw [hb, txBytes_length]
  omega

/-- RDFRAME's issue forgets the last frame (42_frame_decode.md R230). -/
theorem State.Quiet.clearReceived (h : s.Quiet) (dl : BitVec 64) :
    ({ s with
        dl := dl, rxvalid := false, rxbuf := [], rxlen := 0#16, rxaddr := 0#8, rxctrl := 0#8
        rxflen := 0#16 } : State).Quiet :=
  { h with validated := nofun, rxbuf_cap := Nat.zero_le _ }

/-- A quiet period may begin now (42_frame_decode.md R245). -/
theorem State.Quiet.restartQuietPeriod (h : s.Quiet) (disc : BitVec 64) :
    ({ s with t0 := s.now, disc := disc } : State).Quiet :=
  { h with t0_past := BitVec.le_refl _ }

theorem State.Quiet.stampIf (h : s.Quiet) (discarded : Bool) : (s.stampIf discarded).Quiet := by
  cases discarded
  · exact h
  · exact { h with rxts_past := BitVec.le_refl _ }

theorem State.Quiet.emptyRxfifo (h : s.Quiet) : ({ s with rxfifo := [] } : State).Quiet :=
  { h with closed_empty := fun _ => rfl }

/-- With RXFIFO emptied the link may open or close. -/
theorem State.Quiet.setLink (h : s.Quiet) (linkOpen linkerr : Bool) :
    ({ s with linkOpen := linkOpen, linkerr := linkerr, rxfifo := [] } : State).Quiet :=
  { h with closed_empty := fun _ => rfl }

/-- The retained and the validated frame may be forgotten. -/
theorem State.Quiet.invalidate (h : s.Quiet) :
    ({ s with txvalid := false, rxvalid := false } : State).Quiet :=
  { h with retained := nofun, validated := nofun }

/-- A slot's deadlines lie at most the fixed intervals ahead (43_timer.md R276). -/
def Slot.DueWithin (now : BitVec 64) (S : Slot) : Prop :=
  S.reacq.toNat ≤ now.toNat + Config.reacqUs ∧ S.backoff.toNat ≤ now.toNat + Config.backoffUs

theorem State.Quiet.dueWithin (h : s.Quiet) {n : Nat} {S : Slot} (hS : s.slaves[n]? = some S) :
    S.DueWithin s.now :=
  h.deadlines S (List.mem_of_getElem? hS)

/-- A nak keeps the backoff deadline or sets it to NOW + BACKOFF_US. -/
theorem State.Quiet.nak_dueWithin (h : s.Quiet) {S : Slot} (hS : S.DueWithin s.now)
    (maxRetry : BitVec 8) :
    (S.nak maxRetry (s.nowPlus Config.backoffUs)).DueWithin s.now := by
  refine ⟨hS.1, ?_⟩
  simp only [Slot.nak]
  split
  · exact (h.nowPlus_toNat (by simp [Config.backoffUs, Config.reacqUs])).le
  · exact hS.2

theorem State.Quiet.setSlot (h : s.Quiet) (n : Nat) {S : Slot} (hS : S.DueWithin s.now) :
    (s.setSlot n S).Quiet :=
  { h with
    slots := List.length_set.trans h.slots
    deadlines := fun S' hS' => by
      rcases List.mem_or_eq_of_mem_set hS' with hmem | rfl
      · exact h.deadlines S' hmem
      · exact hS }

theorem State.Quiet.refuse (h : s.Quiet) {code : ResultCode} (hc : code ≠ .pending) :
    (s.refuse code).Inv :=
  h.raise hc 0#64

/-- A long command's issue on an open link: a transmission of a retained frame with bytes left, a
reception with no frame valid, or a quiet period. -/
theorem State.Quiet.issue (h : s.Quiet) (ho : s.linkOpen = true) {p : Phase}
    (hp : (p = .txWait ∧ s.txvalid = true ∧ s.txpos < s.txbuf.length) ∨
      (p = .rxScan ∧ s.rxvalid = false) ∨ p = .idleWt) : (s.issue p).Inv := by
  rcases hp with ⟨rfl, hv, hpos⟩ | ⟨rfl, hv⟩ | rfl
  all_goals
    exact { h with
      busy_iff := by simp
      pending_iff := by simp
      busy_open := fun _ => ho
      transmitting := by simp [*]
      turnaround := by simp
      receiving := by simp [Phase.receiving, *]
      collecting := by simp
      body := by simp
      flyBy := by simp }

/-! ### The commands -/

/-- Every command, from any state whose data are sound, leaves the invariant: it completes, or issues a
long command on an open link (30_encoding.md R121). -/
theorem exec_command_inv {i : Instr} {t : State} (hq : s.Quiet) (hc : i.isCommand = true)
    (h : exec i s = .next t) : t.Inv := by
  have badArg : (s.refuse .badArg).Inv := hq.refuse (by decide)
  have badState : (s.refuse .badState).Inv := hq.refuse (by decide)
  cases i with
  | frameSum8 r addr len x seq => cases hc
  | frameCrc16 r addr len x seq => cases hc
  | nop a b | ckfin a b | ckvfy a b | slqry a b | slrd a b =>
    cases h
    exact withOperands_ind badArg fun _ _ => hq.done _
  | ckinit a b =>
    cases h
    refine withOperands_ind badArg fun m _ => (hq.setEngine ?_).done _
    rintro rfl
    exact Nat.zero_lt_succ _
  | ckfold a b =>
    cases h
    refine withOperands_ind badArg fun byte _ => (hq.setEngine fun hm => ?_).done _
    rw [ckStep, hm, if_neg Bool.false_ne_true, sumStep_toNat]
    omega
  | txpclr a b =>
    cases h
    exact withOperands_ind badArg fun _ _ => (hq.setTxpay (Nat.zero_le _)).done _
  | txppush a b =>
    cases h
    refine withOperands_ind badArg fun byte _ => ?_
    split
    · exact badArg
    · rename_i hroom
      refine (hq.setTxpay ?_).done _
      rw [List.length_append, List.length_singleton]
      omega
  | wrframe a b =>
    cases h
    refine withOperands_ind badArg fun ⟨address, q⟩ _ => whenOpen_ind badState fun ho => ?_
    have hr := hq.retain s.cfg.lead s.cfg.trail address q s.cfg.crcMode
    exact hr.issue ho (.inl ⟨rfl, rfl, hr.txbuf_pos rfl⟩)
  | resend a b =>
    cases h
    refine withOperands_ind badArg fun _ _ => whenOpen_ind badState fun ho => ?_
    split
    · rename_i hv
      exact (hq.setTxpos (Nat.zero_le _)).issue ho (.inl ⟨rfl, hv, hq.txbuf_pos hv⟩)
    · exact hq.refuse (by decide)
  | rdframe a b =>
    cases h
    exact withOperands_ind badArg fun _ _ => whenOpen_ind badState fun ho =>
      (hq.clearReceived _).issue ho (.inr (.inl ⟨rfl, rfl⟩))
  | rxrd a b =>
    cases h
    refine withOperands_ind badArg fun i _ => ?_
    split
    · exact badArg
    · exact withOperands_ind badArg fun byte _ => hq.done _
  | idlewait a b =>
    cases h
    exact withOperands_ind badArg fun _ _ => whenOpen_ind badState fun ho =>
      (hq.restartQuietPeriod _).issue ho (.inr (.inr rfl))
  | rxflush a b =>
    cases h
    exact withOperands_ind badArg fun _ _ => whenOpen_ind badState fun _ =>
      (hq.stampIf _).emptyRxfifo.done _
  | linkopen a b =>
    cases h
    refine withOperands_ind badArg fun _ _ => ?_
    split
    · exact badState
    · exact (hq.setLink true s.linkerr).invalidate.done _
  | linkclose a b =>
    cases h
    exact withOperands_ind badArg fun _ _ => (hq.setLink false s.linkerr).done _
  | slcfg a b =>
    cases h
    refine withOperands_ind badArg fun S hS => (hq.setSlot _ ?_).done _
    obtain ⟨old, -, rfl⟩ := slotConfig_some hS
    simp [Slot.DueWithin, Slot.reset]
  | slen a b =>
    cases h
    refine withOperands_ind badArg fun ⟨S, e⟩ hS => (hq.setSlot _ ?_).done _
    have due := hq.dueWithin (slotFlag_some hS)
    exact due
  | slsrx a b =>
    cases h
    refine withOperands_ind badArg fun ⟨S, q⟩ hS => (hq.setSlot _ ?_).done _
    have due := hq.dueWithin (slotPair_some hS)
    exact due
  | slack a b =>
    cases h
    refine withOperands_ind badArg fun S hS => (hq.setSlot _ ?_).done _
    have due := hq.dueWithin (slotOnly_some hS).2
    exact due
  | slnak a b | slnakr a b =>
    cases h
    refine withOperands_ind badArg fun S hS => (hq.setSlot _ ?_).done _
    exact hq.nak_dueWithin (hq.dueWithin (slotOnly_some hS).2) _
  | sltkl a b =>
    cases h
    refine withOperands_ind badArg fun S hS => (hq.setSlot _ ?_).done _
    exact ⟨(hq.nowPlus_toNat (Nat.le_refl _)).le, (hq.dueWithin (slotOnly_some hS).2).2⟩

/-! ### HOST's turns -/

theorem runCommand_inv {w : Word} {t : State} (hi : s.Inv) (h : runCommand w s = .next t) : t.Inv := by
  have hq : ({ s with lastcmd := w } : State).Quiet := { hi.quiet with }
  rcases runCommand_cases h with ⟨i, hd, he⟩ | ⟨-, rfl⟩
  · exact exec_command_inv hq (isCommand_of_decode hd) he
  · exact hq.refuse (by decide)

theorem regWrite_inv (hi : s.Inv) (off : Nat) (v : Word) : (regWrite off v s).Inv := by
  rcases regWrite_cases off v s with ⟨-, h⟩ | ⟨c, h, hb, -⟩ | ⟨c, h⟩ | ⟨-, h⟩ <;> rw [h]
  · exact hi.setUnread ..
  · exact hi.setCfg hb c
  · exact hi.setUnread ..
  · exact hi.setUnread ..

theorem hostWrite_inv {off width : Nat} {v : Word} {t : State} (hi : s.Inv)
    (h : hostWrite off width v s = .next t) : t.Inv := by
  have hdone : ({ s with bus := .done } : State).Inv := hi.setUnread ..
  rcases hostWrite_cases h with ⟨-, rfl⟩ | ⟨-, -, -, rfl⟩ | ⟨-, -, -, hr⟩ | ⟨-, -, -, -, rfl⟩
  · exact hi.setUnread ..
  · exact hi.setUnread ..
  · exact runCommand_inv hdone hr
  · exact regWrite_inv hdone off v

/-! ### The receive phases -/

/-- What holds throughout an RDFRAME, whatever its phase. -/
structure State.Receiving (s : State) : Prop where
  quiet : s.Quiet
  busy : s.busy = true
  pending : s.res = .pending
  linkOpen : s.linkOpen = true
  invalid : s.rxvalid = false

theorem State.Inv.toReceiving (h : s.Inv) (hp : s.ph.receiving = true) : s.Receiving := by
  have hb : s.busy = true := h.busy_iff.2 fun hidle => by rw [hidle] at hp; cases hp
  exact ⟨h.quiet, hb, h.pending_iff.2 hb, h.busy_open hb, h.receiving hp⟩

/-- In a receive phase the invariant is what holds throughout an RDFRAME and what the phase adds. -/
theorem State.Receiving.inv (h : s.Receiving) (hp : s.ph.receiving = true)
    (collecting : s.ph = .rxHdr → s.rxbuf.length ≤ 4 ∧ s.rxbuf.head? = some Config.introducer)
    (body : s.ph = .rxBody →
      5 ≤ s.rxbuf.length ∧ s.rxbuf.length < s.rxflen.toNat ∧ s.rxbuf.take 5 = s.headerInRegs ∧
      5 + s.rxCk ≤ s.rxflen.toNat ∧ s.rxflen.toNat ≤ s.par.rxCap)
    (flyBy : s.ph = .fbBody → 5 ≤ s.fb.cnt.toNat ∧ s.fb.cnt.toNat < s.fb.len.toNat) : s.Inv :=
  { h.quiet with
    busy_iff := iff_of_true h.busy fun hidle => by rw [hidle] at hp; cases hp
    pending_iff := iff_of_true h.pending h.busy
    busy_open := fun _ => h.linkOpen
    transmitting := fun ht => by rcases ht with ht | ht <;> rw [ht] at hp <;> cases hp
    turnaround := fun ht => by rw [ht] at hp; cases hp
    receiving := fun _ => h.invalid
    collecting := collecting
    body := body
    flyBy := flyBy }

/-- While no frame is valid, RXBUF is free to change within RX_CAP. -/
theorem State.Receiving.setRxbuf (h : s.Receiving) {bytes : List Byte}
    (hcap : bytes.length ≤ s.par.rxCap) : ({ s with rxbuf := bytes } : State).Receiving :=
  { h with
    quiet := { h.quiet with
      validated := fun hv => absurd hv (ne_true_of_eq_false h.invalid)
      rxbuf_cap := hcap } }

/-- So are the registers that describe a frame. -/
theorem State.Receiving.setHeader (h : s.Receiving) (address ctrl : Byte) (len : BitVec 16) :
    ({ s with rxaddr := address, rxctrl := ctrl, rxflen := len } : State).Receiving :=
  { h with
    quiet := { h.quiet with
      validated := fun hv => absurd hv (ne_true_of_eq_false h.invalid) } }

/-- The fly-by registers, the counters and the phase are free. -/
theorem State.Receiving.setFlyBy (h : s.Receiving) (f : FlyBy) (c : Counters) (p : Phase) :
    ({ s with fb := f, cnt := c, ph := p } : State).Receiving :=
  { h with quiet := { h.quiet with } }

/-! ### SEQ's turns -/

theorem seqRxScan_inv {b : Byte} {t : State} (h : s.Inv) (hp : s.ph = .rxScan)
    (hm : seqRxScan b s = .moved t) : t.Inv := by
  have hr := h.toReceiving (by rw [hp]; rfl)
  simp only [seqRxScan, SeqMove.moved.injEq] at hm
  split at hm <;> subst hm
  · rename_i hintro
    have hcap : 1 ≤ s.par.rxCap := Nat.le_trans (by decide) h.params.rxCap_ge
    refine ((hr.setRxbuf (bytes := [b]) hcap).setFlyBy s.fb s.cnt .rxHdr).inv rfl (fun _ => ?_) nofun nofun
    simp [hintro]
  · exact h

/-- The header's bytes but the last are collected. -/
theorem seqRxHdr_inv {b : Byte} {t : State} (h : s.Inv) (hp : s.ph = .rxHdr)
    (hm : seqRxHdr b s = .moved t) : t.Inv := by
  have hr := h.toReceiving (by rw [hp]; rfl)
  obtain ⟨hlen, hhead⟩ := h.collecting hp
  have hrx := h.params.rxCap_ge
  simp only [seqRxHdr] at hm
  split at hm
  · cases hm
  · rename_i hfive
    cases hm
    rw [List.length_append, List.length_singleton] at hfive
    have hlen' : (s.rxbuf ++ [b]).length ≤ 4 := by
      rw [List.length_append, List.length_singleton]
      omega
    refine (hr.setRxbuf (by omega)).inv (by simp [hp, Phase.receiving]) (fun _ => ⟨hlen', ?_⟩)
      (by simp [hp]) (by simp [hp])
    simp [List.head?_append, hhead]

/-- The byte that completes the header leaves an RDFRAME with five header bytes, the introducer
first. -/
theorem seqRxHdr_header {b : Byte} {s1 : State} (h : s.Inv) (hp : s.ph = .rxHdr)
    (hh : seqRxHdr b s = .header s1) :
    s1.Receiving ∧ s1.rxbuf.length = 5 ∧ s1.rxbuf.head? = some Config.introducer := by
  have hr := h.toReceiving (by rw [hp]; rfl)
  obtain ⟨-, hhead⟩ := h.collecting hp
  have hrx := h.params.rxCap_ge
  simp only [seqRxHdr] at hh
  split at hh
  · rename_i hfive
    cases hh
    exact ⟨hr.setRxbuf (by omega), hfive, by simp [List.head?_append, hhead]⟩
  · cases hh

/-- Counting a fly-by failure touches the counters only. -/
theorem countFlyBy_fields (s : State) : s.countFlyBy = { s with cnt := s.countFlyBy.cnt } := by
  rcases countFlyBy_cases s with ⟨-, h⟩ | ⟨-, h⟩ <;> rw [h]

/-- The evaluation of a received header leaves the invariant (42_frame_decode.md R233, R236). -/
theorem evaluateHeader_inv (hr : s.Receiving) {address ctrl : Byte} {len : BitVec 16}
    (hbuf : s.rxbuf =
      [Config.introducer, address, len.extractLsb' 0 8, len.extractLsb' 8 8, ctrl]) :
    (evaluateHeader (ctrl.getLsbD 2) address len ctrl s.rxbuf s).Inv := by
  have hdesc := hr.setHeader address ctrl len
  have hlen : s.rxbuf.length = 5 := by rw [hbuf]; rfl
  have hck := ckSize_pos (ctrl.getLsbD 2)
  have hfb : ∀ c : Counters, 5 < len.toNat → ({ s with
      fb := ⟨ckRange s.par.crcSeed (ctrl.getLsbD 2) s.rxbuf, 5#16, len, ctrl.getLsbD 2, false⟩
      cnt := c
      ph := .fbBody } : State).Inv := fun c hl =>
    (hr.setFlyBy _ c .fbBody).inv rfl nofun nofun fun _ => ⟨Nat.le_refl 5, hl⟩
  rcases evaluateHeader_cases (ctrl.getLsbD 2) address len ctrl s.rxbuf s with
    ⟨-, -, h⟩ | ⟨-, -, -, h⟩ | ⟨-, hcap, hmin, h⟩ | ⟨-, -, h⟩ | ⟨-, hl, -, h⟩ | ⟨-, hl, h⟩ <;> rw [h]
  · exact hdesc.quiet.rxDone (by decide) (by decide) _
  · exact hdesc.quiet.rxDone (by decide) (by decide) _
  · refine (hdesc.setFlyBy s.fb s.cnt .rxBody).inv rfl nofun (fun _ => ?_) nofun
    refine ⟨hlen.ge, ?_, ?_, hmin, hcap⟩
    · change s.rxbuf.length < len.toNat
      omega
    · change s.rxbuf.take 5 = _
      rw [hbuf]
      rfl
  · rw [countFlyBy_fields]
    exact (hr.setFlyBy _ _ .rxScan).inv rfl nofun nofun nofun
  · rw [countFlyBy_fields]
    exact hfb _ hl
  · exact hfb s.cnt (by omega)

/-- A frame that is complete, within RX_CAP and whose checksum verifies may be validated, its payload
length what is left of it (10_state.md R67 (f)). -/
theorem State.Quiet.validate (h : s.Quiet) (hlen : s.rxbuf.length = s.rxflen.toNat)
    (hhead : s.rxbuf.take 5 = s.headerInRegs) (hmin : 5 + s.rxCk ≤ s.rxflen.toNat)
    (hcap : s.rxflen.toNat ≤ s.par.rxCap)
    (hverify : ckVerify s.par.crcSeed (s.rxctrl.getLsbD 2) (s.rxbuf.take (s.rxflen.toNat - s.rxCk))
      (s.rxbuf.drop (s.rxflen.toNat - s.rxCk)) = true) :
    ({ s with
        rxlen := BitVec.ofNat 16 (s.rxflen.toNat - 5 - s.rxCk)
        rxvalid := true
        rxts := s.now } : State).Quiet := by
  have hfl := s.rxflen.isLt
  have hrest : s.rxflen.toNat =
      5 + (BitVec.ofNat 16 (s.rxflen.toNat - 5 - s.rxCk)).toNat + s.rxCk := by
    rw [BitVec.toNat_ofNat, Nat.mod_eq_of_lt (by omega)]
    omega
  exact { h with
    validated := fun _ => ⟨hlen, hhead, hrest, hcap, hverify⟩
    rxts_past := BitVec.le_refl _ }

/-- The verdict on a frame whose every byte is in RXBUF (42_frame_decode.md R235). -/
theorem frameDone_inv (hr : s.Receiving) (hlen : s.rxbuf.length = s.rxflen.toNat)
    (hhead : s.rxbuf.take 5 = s.headerInRegs) (hmin : 5 + s.rxCk ≤ s.rxflen.toNat)
    (hcap : s.rxflen.toNat ≤ s.par.rxCap) : s.frameDone.Inv := by
  simp only [State.frameDone]
  split
  · rename_i hverify
    exact (hr.quiet.validate hlen hhead hmin hcap hverify).raise (by decide) _
  · exact hr.quiet.rxDone (by decide) (by decide) _

theorem seqRxBody_inv {b : Byte} {t : State} (h : s.Inv) (hp : s.ph = .rxBody)
    (hm : seqRxBody b s = .moved t) : t.Inv := by
  have hr := h.toReceiving (by rw [hp]; rfl)
  obtain ⟨hfive, hlt, hhead, hmin, hcap⟩ := h.body hp
  have hlen : (s.rxbuf ++ [b]).length = s.rxbuf.length + 1 := List.length_append
  have hfive' : 5 ≤ (s.rxbuf ++ [b]).length := by omega
  have hr' : ({ s with rxbuf := s.rxbuf ++ [b] } : State).Receiving := hr.setRxbuf (by omega)
  have hhead' : (s.rxbuf ++ [b]).take 5 = s.headerInRegs := by
    rw [List.take_append_of_le_length hfive, hhead]
  simp only [seqRxBody, SeqMove.moved.injEq] at hm
  split at hm <;> subst hm <;> rename_i hlast
  · exact frameDone_inv hr' hlast hhead' hmin hcap
  · have hmore : (s.rxbuf ++ [b]).length < s.rxflen.toNat := Nat.lt_of_le_of_ne (by omega) hlast
    refine hr'.inv (by simp [hp, Phase.receiving]) (by simp [hp])
      (fun _ => ⟨hfive', hmore, hhead', hmin, hcap⟩) (by simp [hp])

/-- A byte of fly-by moves FBCNT on by one and keeps FBLEN (42_frame_decode.md R238). -/
theorem FlyBy.consume_count (b : Byte) (f : FlyBy) :
    (f.consume b).cnt = f.cnt + 1#16 ∧ (f.consume b).len = f.len := by
  refine ⟨rfl, ?_⟩
  simp only [FlyBy.consume]
  split
  · split
    · rfl
    · split <;> rfl
  · rfl

theorem seqFbBody_inv {b : Byte} {t : State} (h : s.Inv) (hp : s.ph = .fbBody)
    (hm : seqFbBody b s = .moved t) : t.Inv := by
  have hr := h.toReceiving (by rw [hp]; rfl)
  obtain ⟨hfive, hlt⟩ := h.flyBy hp
  obtain ⟨hcnt, hlen⟩ := FlyBy.consume_count b s.fb
  simp only [seqFbBody, SeqMove.moved.injEq] at hm
  split at hm <;> subst hm <;> rename_i hlast
  · have hscan : ∀ c : Counters,
        ({ s with fb := s.fb.consume b, cnt := c, ph := .rxScan } : State).Inv := fun c =>
      (hr.setFlyBy _ c .rxScan).inv rfl nofun nofun nofun
    split
    · rw [countFlyBy_fields]
      exact hscan _
    · exact hscan s.cnt
  · have hflen := s.fb.len.isLt
    have hnext : (s.fb.consume b).cnt.toNat = s.fb.cnt.toNat + 1 := by
      rw [hcnt, BitVec.toNat_add, BitVec.toNat_ofNat]
      omega
    have hne : (s.fb.consume b).cnt.toNat ≠ s.fb.len.toNat := fun he =>
      hlast (BitVec.eq_of_toNat_eq (by rw [he, hlen]))
    refine (hr.setFlyBy (s.fb.consume b) s.cnt s.ph).inv (by rw [hp]; rfl) (by simp [hp])
      (by simp [hp]) fun _ => ?_
    change 5 ≤ (s.fb.consume b).cnt.toNat ∧ (s.fb.consume b).cnt.toNat < (s.fb.consume b).len.toNat
    rw [hlen]
    omega

/-- The turnaround over, TXWAIT hands the frame to TXSHIFT (41_frame_encode.md R197). -/
theorem startShift_inv (h : s.Inv) (hp : s.ph = .txWait) (ht : s.turnaroundOver = true) :
    ({ s with ph := .txShift } : State).Inv :=
  { h with
    busy_iff := iff_of_true (h.busy_iff.2 (by rw [hp]; decide)) nofun
    transmitting := fun _ => h.transmitting (.inl hp)
    turnaround := fun _ => ht
    receiving := nofun
    collecting := nofun
    body := nofun
    flyBy := nofun }

/-- A byte that is not the last goes out (41_frame_encode.md R198). -/
theorem shiftByte_inv (h : s.Inv) (hp : s.ph = .txShift) (b : Byte)
    (hmore : s.txpos + 1 ≠ s.txbuf.length) :
    ({ s.emit b with txpos := s.txpos + 1 } : State).Inv := by
  obtain ⟨hv, hpos⟩ := h.transmitting (.inr hp)
  exact { h with
    txpos_le := hpos
    transmitting := fun _ => ⟨hv, Nat.lt_of_le_of_ne hpos hmore⟩
    turnaround := h.turnaround }

/-- SEQ's step leaves the invariant. -/
theorem seqStep_inv {t : State} (h : s.Inv) (hm : seqStep s = .moved t) : t.Inv := by
  have hs := seqStep_cases s
  rw [hm] at hs
  rcases hs with hs | ⟨-, hp, ht, hs⟩ | ⟨-, hp, b, -, s1, rfl, ⟨hlast, hs⟩ | ⟨hmore, hs⟩⟩ |
    ⟨-, -, -, -, hs⟩ | ⟨hb, -, b, rest, -, hs⟩ | ⟨hb, -, b, rest, -, hs⟩ | ⟨-, -, -, -, hs⟩
  · cases hs
  · cases hs
    exact startShift_inv h hp ht
  · cases hs
    have hq : (s.emit b).Quiet := { h.quiet with }
    exact (hq.setTxpos hlast.le).done _
  · cases hs
    exact shiftByte_inv h hp b hmore
  · cases hs
    exact h.quiet.rxDone (by decide) (by decide) _
  · have hrest := h.takeBytes hb rest
    rcases hs with ⟨hp, hs⟩ | ⟨hp, hs⟩ | ⟨hp, hs⟩ | ⟨hp, hs⟩
    · exact seqRxScan_inv hrest hp hs.symm
    · exact seqRxHdr_inv hrest hp hs.symm
    · exact seqRxBody_inv hrest hp hs.symm
    · exact seqFbBody_inv hrest hp hs.symm
  · cases hs
    have hrest := h.takeBytes hb rest
    exact { hrest with turnaround := hrest.turnaround, t0_past := BitVec.le_refl _ }
  · cases hs
    exact (h.quiet.stampIf _).done _

/-- What SEQ's step hands to the decoder: an RDFRAME with five header bytes, the introducer first. -/
theorem seqStep_header {s1 : State} (h : s.Inv) (hh : seqStep s = .header s1) :
    s1.Receiving ∧ s1.rxbuf.length = 5 ∧ s1.rxbuf.head? = some Config.introducer := by
  have hs := seqStep_cases s
  rw [hh] at hs
  rcases hs with hs | ⟨-, -, -, hs⟩ | ⟨-, -, b, -, s1, -, ⟨-, hs⟩ | ⟨-, hs⟩⟩ | ⟨-, -, -, -, hs⟩ |
    ⟨hb, -, b, rest, -, ⟨-, hs⟩ | ⟨hp, hs⟩ | ⟨-, hs⟩ | ⟨-, hs⟩⟩ | ⟨-, -, b, rest, -, hs⟩ | ⟨-, -, -, -, hs⟩ <;>
    try cases hs
  exact seqRxHdr_header (h.takeBytes hb rest) hp hs.symm

/-- Five bytes that begin with the introducer decode (30_encoding.md R130). -/
theorem decodeHeader_ok {bytes : List Byte} (hlen : bytes.length = 5)
    (hhead : bytes.head? = some Config.introducer) : ∃ i, decodeHeader bytes = .ok i := by
  match bytes, hlen with
  | [intro, address, lo, hi, ctrl], _ =>
    obtain rfl : intro = 0x53#8 := Option.some.inj hhead
    rw [decodeHeader, if_pos rfl]
    split <;> exact ⟨_, rfl⟩

theorem seqTurn_inv {t : State} (h : s.Inv) (ht : seqTurn s = .next t) : t.Inv := by
  rcases seqTurn_cases ht with ⟨-, rfl⟩ | hm | ⟨s1, i, hh, hd, he⟩
  · exact h
  · exact seqStep_inv h hm
  · obtain ⟨hr, -, -⟩ := seqStep_header h hh
    obtain ⟨m, address, len, ctrl, rfl, hbuf, rfl⟩ := exec_header hd he
    exact evaluateHeader_inv hr hbuf

/-! ### The environment's turns -/

theorem tick_inv (h : s.Inv) {d : Nat} (hd : s.now.toNat + d < Config.nowBound) :
    ({ s with now := s.nowPlus d } : State).Inv := by
  have hn : (s.nowPlus d).toNat = s.now.toNat + d := by
    rw [State.nowPlus, BitVec.toNat_ofNat, Nat.mod_eq_of_lt]
    simp only [Config.nowBound] at hd
    omega
  have hle : s.now ≤ s.nowPlus d := by rw [BitVec.le_def, hn]; omega
  exact { h with
    turnaround := fun hp => by
      have ht := h.turnaround hp
      simp only [State.turnaroundOver, decide_eq_true_eq] at ht ⊢
      omega
    now_bound := hn ▸ hd
    rxts_past := BitVec.le_trans h.rxts_past hle
    t0_past := BitVec.le_trans h.t0_past hle
    deadlines := fun S hS => by
      have hdue := h.deadlines S hS
      change S.reacq.toNat ≤ (s.nowPlus d).toNat + _ ∧ S.backoff.toNat ≤ (s.nowPlus d).toNat + _
      omega }

theorem rxArrive_inv (h : s.Inv) (b : Byte) : (rxArrive b s).Inv := by
  unfold rxArrive
  split
  · rename_i ho
    exact { h with
      turnaround := h.turnaround
      closed_empty := fun hc => absurd ho (ne_true_of_eq_false hc) }
  · exact h

theorem lineFault_inv (h : s.Inv) : (lineFault s).Inv := by
  have hq : ({ s with linkOpen := false, linkerr := true, rxfifo := [] } : State).Quiet :=
    h.quiet.setLink false true
  simp only [lineFault]
  split
  · split
    · exact (hq.stampIf _).raise (by decide) _
    · rename_i hb
      exact { h with
        turnaround := h.turnaround
        busy_open := fun hbusy => absurd hbusy hb
        closed_empty := fun _ => rfl }
  · exact h

end Inv

/-! ### The step -/

/-- Every turn of every agent keeps the invariant. -/
theorem step_inv {s t : State} (hi : s.Inv) (h : step s = .next t) : t.Inv := by
  have ha := hi.afterTurn
  rcases step_cases h with ⟨off, width, v, -, hw⟩ | ⟨off, width, -, rfl⟩ | ⟨-, hs⟩ |
    ⟨d, -, ⟨-, rfl⟩ | ⟨-, hd, rfl⟩⟩ | ⟨b, -, rfl⟩ | ⟨-, rfl⟩ | ⟨-, rfl⟩
  · exact hostWrite_inv ha hw
  · exact ha.setUnread ..
  · exact seqTurn_inv ha hs
  · exact ha
  · exact tick_inv ha (by rwa [State.afterTurn_now])
  · exact rxArrive_inv ha b
  · exact lineFault_inv ha
  · exact (resetFor_inv ha.params).setUnread ..

/-! ### When a turn stops -/

/-- HOST's write always answers a next state. -/
theorem hostWrite_next (off width : Nat) (v : Word) (s : State) :
    ∃ t, hostWrite off width v s = .next t := by
  unfold hostWrite
  split
  · split
    · split
      · exact ⟨_, rfl⟩
      · unfold runCommand
        split
        · obtain ⟨t, ht, -⟩ := exec_next _ _
          exact ⟨t, ht⟩
        · exact ⟨_, rfl⟩
    · exact ⟨_, rfl⟩
  · exact ⟨_, rfl⟩

/-- Under the invariant SEQ's turn answers a next state: a header it completes has its introducer, so it
decodes. -/
theorem seqTurn_next {s : State} (h : s.Inv) : ∃ t, seqTurn s = .next t := by
  cases hm : seqStep s with
  | wait => exact ⟨s, by rw [seqTurn, hm]⟩
  | moved t => exact ⟨t, by rw [seqTurn, hm]⟩
  | header s1 =>
    obtain ⟨-, hlen, hhead⟩ := seqStep_header h hm
    obtain ⟨i, hd⟩ := decodeHeader_ok hlen hhead
    obtain ⟨t, ht, -⟩ := exec_next i s1
    exact ⟨t, by simp only [seqTurn, hm, hd, ht]⟩

/-- Time moves, or the tick leaves the premise of 10_state.md R32. -/
theorem tick_outcome (d : Nat) (s : State) : (∃ t, tick d s = .next t) ∨
    (1 ≤ d ∧ Config.nowBound ≤ s.now.toNat + d ∧ tick d s = .fault .timeBeyondPremise) := by
  unfold tick
  split
  · exact .inl ⟨_, rfl⟩
  · split
    · exact .inl ⟨_, rfl⟩
    · rename_i hd hb
      exact .inr ⟨Nat.one_le_iff_ne_zero.2 hd, Nat.le_of_not_lt hb, rfl⟩

/-! ### Who writes the configuration and the sticky flags -/

/-- The configuration and the sticky flags are kept. -/
structure ControlKept (s t : State) : Prop where
  cfg : t.cfg = s.cfg
  cmdovr : t.cmdovr = s.cmdovr
  wrerr : t.wrerr = s.wrerr
  linkerr : t.linkerr = s.linkerr

/-- The link configuration, the source's part of CFG that an open link locks (10_state.md R46 to R50). -/
def SameLinkConfig (c d : CfgRegs) : Prop :=
  c.lead = d.lead ∧ c.trail = d.trail ∧ c.rdTimeout = d.rdTimeout ∧ c.postRxDelay = d.postRxDelay ∧
    c.idleThresh = d.idleThresh

/-- What turn e may do to the configuration and the sticky flags, one row per cause. -/
inductive ControlChange (s t : State) : Event → Prop where
  | kept {e : Event} (h : ControlKept s t) : ControlChange s t e
  | overrun {w : Word} (hb : s.busy = true) (h : ControlKept { s with cmdovr := true } t) :
      ControlChange s t (.write 0 8 w)
  | cleared {v : Word} (h : ControlKept (clearSticky v s) t) : ControlChange s t (.write 8 8 v)
  | configured {off : Nat} {v : Word} (c : CfgRegs) (hb : s.busy = false)
      (hl : s.linkOpen = true → SameLinkConfig c s.cfg) (h : ControlKept { s with cfg := c } t) :
      ControlChange s t (.write off 8 v)
  | refused {off : Nat} {v : Word} (h0 : off ≠ 0) (h : ControlKept { s with wrerr := true } t) :
      ControlChange s t (.write off 8 v)
  | lineFailed (ho : s.linkOpen = true) (h : ControlKept { s with linkerr := true } t) :
      ControlChange s t .lineFault

/-- A change is one from any state with the same BUSY, OPEN, configuration and sticky flags. -/
theorem ControlChange.of_kept {s u t : State} {e : Event} (hb : s.busy = u.busy)
    (ho : s.linkOpen = u.linkOpen) (hk : ControlKept u s) (h : ControlChange s t e) :
    ControlChange u t e := by
  obtain ⟨hcfg, hovr, hwr, hlink⟩ := hk
  cases h with
  | kept h => exact .kept ⟨h.cfg.trans hcfg, h.cmdovr.trans hovr, h.wrerr.trans hwr,
      h.linkerr.trans hlink⟩
  | overrun hbusy h =>
    exact .overrun (hb ▸ hbusy) ⟨h.cfg.trans hcfg, h.cmdovr, h.wrerr.trans hwr, h.linkerr.trans hlink⟩
  | cleared h =>
    refine .cleared ⟨h.cfg.trans hcfg, h.cmdovr.trans ?_, h.wrerr.trans ?_, h.linkerr.trans ?_⟩ <;>
      simp only [clearSticky, hovr, hwr, hlink]
  | configured c hbusy hl h =>
    exact .configured c (hb ▸ hbusy) (hcfg ▸ ho ▸ hl)
      ⟨h.cfg, h.cmdovr.trans hovr, h.wrerr.trans hwr, h.linkerr.trans hlink⟩
  | refused h0 h =>
    exact .refused h0 ⟨h.cfg.trans hcfg, h.cmdovr.trans hovr, h.wrerr, h.linkerr.trans hlink⟩
  | lineFailed hopen h =>
    exact .lineFailed (ho ▸ hopen) ⟨h.cfg.trans hcfg, h.cmdovr.trans hovr, h.wrerr.trans hwr, h.linkerr⟩

theorem runCommand_control {w : Word} {s t : State} (h : runCommand w s = .next t) :
    ControlKept s t := by
  rcases runCommand_cases h with ⟨i, -, he⟩ | ⟨-, rfl⟩
  · have hf := exec_frame he
    exact ⟨hf.cfg, hf.cmdovr, hf.wrerr, hf.linkerr⟩
  · constructor <;> simp

theorem regWrite_control {off : Nat} (h0 : off ≠ 0) (v : Word) (s : State) :
    ControlChange s (regWrite off v s) (.write off 8 v) := by
  rcases regWrite_cases off v s with ⟨rfl, h⟩ | ⟨c, h, hb, hl⟩ | ⟨c, h⟩ | ⟨-, h⟩ <;> rw [h]
  · exact .cleared ⟨rfl, rfl, rfl, rfl⟩
  · exact .configured c hb hl ⟨rfl, rfl, rfl, rfl⟩
  · exact .kept ⟨rfl, rfl, rfl, rfl⟩
  · exact .refused h0 ⟨rfl, rfl, rfl, rfl⟩

theorem hostWrite_control {off width : Nat} {v : Word} {s t : State}
    (h : hostWrite off width v s = .next t) : ControlChange s t (.write off width v) := by
  rcases hostWrite_cases h with
    ⟨-, rfl⟩ | ⟨rfl, rfl, hb, rfl⟩ | ⟨-, -, -, hr⟩ | ⟨rfl, -, -, h0, rfl⟩
  · exact .kept ⟨rfl, rfl, rfl, rfl⟩
  · exact .overrun hb ⟨rfl, rfl, rfl, rfl⟩
  · obtain ⟨hcfg, hovr, hwr, hlink⟩ := runCommand_control hr
    exact .kept ⟨hcfg, hovr, hwr, hlink⟩
  · exact .of_kept (s := { s with bus := .done }) rfl rfl ⟨rfl, rfl, rfl, rfl⟩ (regWrite_control h0 v _)

theorem lineFault_control (s : State) : ControlChange s (lineFault s) .lineFault := by
  simp only [lineFault]
  split
  · rename_i ho
    refine .lineFailed ho ?_
    split <;> constructor <;> simp
  · exact .kept ⟨rfl, rfl, rfl, rfl⟩

/-- Every way a turn other than reset can change the configuration or a sticky flag. -/
theorem step_control {s t : State} (h : step s = .next t) (hne : nextTurn s ≠ .reset) :
    ControlChange s t (nextTurn s) := by
  refine .of_kept (by simp) (by simp) (by constructor <;> simp) (s := s.afterTurn) ?_
  rcases step_cases h with ⟨off, width, v, he, hw⟩ | ⟨off, width, -, rfl⟩ | ⟨-, hs⟩ |
    ⟨d, -, ⟨-, rfl⟩ | ⟨-, -, rfl⟩⟩ | ⟨b, -, rfl⟩ | ⟨he, rfl⟩ | ⟨he, -⟩
  · exact he ▸ hostWrite_control hw
  · exact .kept ⟨rfl, rfl, rfl, rfl⟩
  · have hf := seqTurn_frame hs
    exact .kept ⟨hf.cfg, hf.cmdovr, hf.wrerr, hf.linkerr⟩
  · exact .kept ⟨rfl, rfl, rfl, rfl⟩
  · exact .kept ⟨rfl, rfl, rfl, rfl⟩
  · rw [rxArrive_fields]
    exact .kept ⟨rfl, rfl, rfl, rfl⟩
  · exact he ▸ lineFault_control _
  · exact absurd he hne

/-! ### Who writes the checksum engine -/

/-- ACC and MODE are kept. -/
def EngineKept (s t : State) : Prop := t.acc = s.acc ∧ t.mode = s.mode

/-- Of the commands CKINIT and CKFOLD alone write the engine (40_checksum.md R174). -/
theorem exec_engine {i : Instr} {s t : State} (h : exec i s = .next t) :
    EngineKept s t ∨ ∃ a b, i = .ckinit a b ∨ i = .ckfold a b := by
  have refused : ∀ c, EngineKept s (s.refuse c) := fun _ => ⟨rfl, rfl⟩
  cases i with
  | ckinit a b => exact .inr ⟨a, b, .inl rfl⟩
  | ckfold a b => exact .inr ⟨a, b, .inr rfl⟩
  | frameSum8 r addr len x seq | frameCrc16 r addr len x seq =>
    cases h
    exact .inl ⟨(evaluateHeader_seqFrame ..).acc, (evaluateHeader_seqFrame ..).mode⟩
  | rxrd a b =>
    cases h
    refine .inl (withOperands_ind (refused _) fun _ _ => ?_)
    split
    · exact refused _
    · exact withOperands_ind (refused _) fun _ _ => ⟨rfl, rfl⟩
  | wrframe a b | rdframe a b | idlewait a b =>
    cases h
    exact .inl (withOperands_ind (refused _) fun _ _ => whenOpen_ind (refused _) fun _ => ⟨rfl, rfl⟩)
  | resend a b =>
    cases h
    refine .inl (withOperands_ind (refused _) fun _ _ => whenOpen_ind (refused _) fun _ => ?_)
    split <;> exact ⟨rfl, rfl⟩
  | rxflush a b =>
    cases h
    refine .inl (withOperands_ind (refused _) fun _ _ => whenOpen_ind (refused _) fun _ => ?_)
    exact ⟨State.stampIf_acc .., State.stampIf_mode ..⟩
  | txppush a b | linkopen a b =>
    cases h
    refine .inl (withOperands_ind (refused _) fun _ _ => ?_)
    split <;> exact ⟨rfl, rfl⟩
  | _ a b =>
    cases h
    exact .inl (withOperands_ind (refused _) fun _ _ => ⟨rfl, rfl⟩)

/-- HOST's write keeps the engine, or runs a CKINIT or CKFOLD. -/
theorem hostWrite_engine {off width : Nat} {v : Word} {s t : State}
    (h : hostWrite off width v s = .next t) : EngineKept s t ∨
    (width = 8 ∧ off = 0 ∧ s.busy = false ∧
      ∃ a b, decodeCommand v = .ok (.ckinit a b) ∨ decodeCommand v = .ok (.ckfold a b)) := by
  rcases hostWrite_cases h with ⟨-, rfl⟩ | ⟨-, -, -, rfl⟩ | ⟨hw, h0, hb, hr⟩ | ⟨-, -, -, -, rfl⟩
  · exact .inl ⟨rfl, rfl⟩
  · exact .inl ⟨rfl, rfl⟩
  · rcases runCommand_cases hr with ⟨i, hd, he⟩ | ⟨-, rfl⟩
    · rcases exec_engine he with hk | ⟨a, b, rfl | rfl⟩
      · exact .inl hk
      · exact .inr ⟨hw, h0, hb, a, b, .inl hd⟩
      · exact .inr ⟨hw, h0, hb, a, b, .inr hd⟩
    · exact .inl ⟨rfl, rfl⟩
  · rw [regWrite_fields]
    exact .inl ⟨rfl, rfl⟩

/-- Every turn other than reset keeps the engine, or is HOST's write of a CKINIT or CKFOLD to CMD while
no command runs. -/
theorem step_engine {s t : State} (h : step s = .next t) (hne : nextTurn s ≠ .reset) :
    EngineKept s t ∨ (s.busy = false ∧ ∃ w a b, nextTurn s = .write 0 8 w ∧
      (decodeCommand w = .ok (.ckinit a b) ∨ decodeCommand w = .ok (.ckfold a b))) := by
  have hafter : EngineKept s.afterTurn t → EngineKept s t := by
    simp only [EngineKept, State.afterTurn_acc, State.afterTurn_mode, imp_self]
  rcases step_cases h with ⟨off, width, v, he, hw⟩ | ⟨off, width, -, rfl⟩ | ⟨-, hs⟩ |
    ⟨d, -, ⟨-, rfl⟩ | ⟨-, -, rfl⟩⟩ | ⟨b, -, rfl⟩ | ⟨-, rfl⟩ | ⟨he, -⟩
  · rcases hostWrite_engine hw with hk | ⟨rfl, rfl, hb, a, b, hd⟩
    · exact .inl (hafter hk)
    · exact .inr ⟨by rwa [State.afterTurn_busy] at hb, v, a, b, he, hd⟩
  · exact .inl (hafter ⟨rfl, rfl⟩)
  · have hf := seqTurn_frame hs
    exact .inl (hafter ⟨hf.acc, hf.mode⟩)
  · exact .inl (hafter ⟨rfl, rfl⟩)
  · exact .inl (hafter ⟨rfl, rfl⟩)
  · refine .inl (hafter ?_)
    rw [rxArrive_fields]
    exact ⟨rfl, rfl⟩
  · refine .inl (hafter ?_)
    rw [lineFault_fields]
    exact ⟨rfl, rfl⟩
  · exact absurd he hne

/-! ### The statements -/

/-- Settles O43, turn by turn. -/
theorem stepKeepsInv : Obligations.StepKeepsInv := fun _ _ hi h => step_inv hi h

/-- Settles O42: the open parameters meet R8, and nothing runs at reset. -/
theorem resetKeepsInv : Obligations.ResetKeepsInv := resetFor_inv params_ok

/-- Settles O41: the external reset answers the reset state up to the turns to come. -/
theorem resetValues : Obligations.ResetValues := by
  intro t ht
  obtain ⟨agenda, turn, rfl⟩ : ∃ agenda turn,
      t = { State.resetFor Config.params with agenda := agenda, turn := turn } := by
    rcases ht with rfl | ⟨s, rest, ha, hp, hs⟩
    · exact ⟨_, _, rfl⟩
    · rw [step_of_reset (by rw [nextTurn, ha]), hp] at hs
      cases hs
      exact ⟨_, _, rfl⟩
  simp [State.resetFor, CfgRegs.reset, Slot.reset]

/-- Settles O44: only a tick can stop, and only beyond the premise on NOW. -/
theorem stepStopsOnlyBeyondTime : Obligations.StepStopsOnlyBeyondTime := by
  intro s hi
  unfold step
  cases nextTurn s with
  | write off width v => exact .inl (hostWrite_next ..)
  | seq => exact .inl (seqTurn_next hi.afterTurn)
  | tick d =>
    rcases tick_outcome d s.afterTurn with hn | ⟨hd, hb, hf⟩
    · exact .inl hn
    · exact .inr ⟨d, rfl, hd, by rwa [State.afterTurn_now] at hb, hf⟩
  | read off width => exact .inl ⟨_, rfl⟩
  | rxArrive b => exact .inl ⟨_, rfl⟩
  | lineFault => exact .inl ⟨_, rfl⟩
  | reset => exact .inl ⟨_, rfl⟩

/-- Settles O46: the one change that stores a configuration needs BUSY = 0, and on an open link keeps
the link configuration. -/
theorem configurationIsLocked : Obligations.ConfigurationIsLocked := by
  intro s t h hne
  have same (hk : t.cfg = s.cfg) : (s.busy = true → t.cfg = s.cfg) ∧
      (s.linkOpen = true → SameLinkConfig t.cfg s.cfg) := by
    rw [hk]
    exact ⟨fun _ => rfl, fun _ => ⟨rfl, rfl, rfl, rfl, rfl⟩⟩
  have hc := step_control h hne
  generalize nextTurn s = e at hc
  cases hc with
  | kept hk => exact same hk.cfg
  | overrun _ hk => exact same hk.cfg
  | cleared hk => exact same hk.cfg
  | refused _ hk => exact same hk.cfg
  | lineFailed _ hk => exact same hk.cfg
  | configured c hb hl hk =>
    rw [hk.cfg]
    exact ⟨fun hbusy => absurd hbusy (ne_true_of_eq_false hb), hl⟩

/-- Settles O49. -/
theorem onlyChecksumCommandsWriteEngine : Obligations.OnlyChecksumCommandsWriteEngine := by
  intro s t h hne hchanged
  rcases step_engine h hne with ⟨hacc, hmode⟩ | hw
  · exact absurd hchanged (by simp [hacc, hmode])
  · exact hw

/-- Settles O51, cause by cause. -/
theorem stickyFlagsSetAndCleared : Obligations.StickyFlagsSetAndCleared := by
  intro s t h hne
  have hc := step_control h hne
  generalize nextTurn s = e at hc ⊢
  cases hc with
  | kept hk => simp +contextual [hk.cmdovr, hk.wrerr, hk.linkerr]
  | overrun hb hk => simp +contextual [hk.cmdovr, hk.wrerr, hk.linkerr, hb]
  | cleared hk => simp +contextual [hk.cmdovr, hk.wrerr, hk.linkerr, clearSticky]
  | configured c hb hl hk => simp +contextual [hk.cmdovr, hk.wrerr, hk.linkerr]
  | refused h0 hk => simp +contextual [hk.cmdovr, hk.wrerr, hk.linkerr, h0]
  | lineFailed ho hk => simp +contextual [hk.cmdovr, hk.wrerr, hk.linkerr, ho]

end Sys2Proof.Machine
end

section
/-! The register space and the environment's simple turns (20_memory.md): what HOST's accesses answer
and change, an arriving byte, the passing of time. -/

namespace Sys2Proof.Machine

open Sys2Proof.Certificates

/-- The step is the turn of the agenda's first. -/
theorem step_agenda {s : State} {e : Event} {rest : List Event} (h : s.agenda = e :: rest) :
    step s = perform e { s with agenda := rest } := by
  simp only [step, nextTurn, State.afterTurn, h]

/-- The state after an access of HOST: its turn taken off the agenda and its answer given. -/
def State.answered (rest : List Event) (r : BusReply) (s : State) : State :=
  { s with agenda := rest, bus := r }

/-! ### What a register reads as -/

theorem Phase.code_toNat (p : Phase) : p.code.toNat = phaseNumber p := by
  cases p <;> rfl

theorem ResultCode.code_toNat (c : ResultCode) : c.code.toNat = resultNumber c := by
  cases c <;> rfl

/-- A read answers from the registers, not from the agenda. -/
theorem regRead_agenda (off : Nat) (s : State) (rest : List Event) :
    regRead off { s with agenda := rest } = regRead off s := by
  unfold regRead
  split <;> rfl

theorem hostRead_legal {off : Nat} (h8 : off % 8 = 0) (hlt : off < 0x100) (s : State) :
    hostRead off 8 s = { s with bus := .data (regRead off s) } := by
  rw [hostRead, if_pos ((legalAccess_iff off 8).2 ⟨rfl, h8, hlt⟩)]

/-! ### What a register write stores -/

/-- Writing 1 clears a sticky flag, writing 0 keeps it (10_state.md R54). -/
theorem clearSticky_eq (v : Word) (s : State) : clearSticky v s = { s with
    cmdovr := if v.getLsbD 16 then false else s.cmdovr
    wrerr := if v.getLsbD 17 then false else s.wrerr
    linkerr := if v.getLsbD 18 then false else s.linkerr } := by
  have clear (bit flag : Bool) : (flag && !bit) = if bit then false else flag := by
    cases bit <;> simp
  simp only [clearSticky, clear]

/-- The link configuration is stored unless the link is open or a command runs (20_memory.md R93). -/
theorem configure_linkLock (c : CfgRegs) (s : State) : s.configure (s.linkOpen || s.busy) c =
    if s.linkOpen = true ∨ s.busy = true then { s with wrerr := true } else { s with cfg := c } := by
  simp only [State.configure, Bool.or_eq_true]

theorem configure_answered (locked : Bool) (c : CfgRegs) (s : State) (rest : List Event)
    (r : BusReply) :
    (s.answered rest r).configure locked c = (s.configure locked c).answered rest r := by
  cases locked <;> rfl

/-- A register write neither reads nor writes the agenda and HOST's last answer. -/
theorem regWrite_answered (off : Nat) (v : Word) (s : State) (rest : List Event) (r : BusReply) :
    regWrite off v (s.answered rest r) = (regWrite off v s).answered rest r := by
  unfold regWrite
  split
  -- the configuration registers
  case h_2 | h_3 | h_4 | h_5 | h_6 | h_7 | h_8 => exact configure_answered ..
  -- STATUS, the counters, and the offsets that store nothing
  case h_1 | h_9 | h_10 | h_11 | h_12 => rfl

/-- A legal write but CMD's is the register's own, then answered. -/
theorem hostWrite_register {off : Nat} (h8 : off % 8 = 0) (hlt : off < 0x100) (h0 : off ≠ 0)
    (v : Word) (s : State) (rest : List Event) :
    hostWrite off 8 v { s with agenda := rest } = .next ((regWrite off v s).answered rest .done) := by
  rw [hostWrite, if_pos ((legalAccess_iff off 8).2 ⟨rfl, h8, hlt⟩), if_neg h0, ← regWrite_answered]
  rfl

/-! ### Illegal accesses -/

theorem hostRead_illegal {off width : Nat} (h : legalAccess off width = false) (s : State) :
    hostRead off width s = { s with bus := .error } := by
  rw [hostRead, h, if_neg Bool.false_ne_true]

theorem hostWrite_illegal {off width : Nat} (h : legalAccess off width = false) (v : Word)
    (s : State) : hostWrite off width v s = .next { s with bus := .error } := by
  rw [hostWrite, h, if_neg Bool.false_ne_true]

/-! ### The environment -/

theorem rxArrive_eq (b : Byte) (s : State) : rxArrive b s = { s with
    rxfifo := if s.linkOpen = true then s.rxfifo ++ [b] else s.rxfifo } := by
  by_cases h : s.linkOpen = true
  · rw [rxArrive, if_pos h, if_pos h]
  · rw [rxArrive, if_neg h, if_neg h]

/-- CLOCK's step under the premise of 10_state.md R32. -/
theorem tick_next {d : Nat} {s : State} (hd : 1 ≤ d) (hb : s.now.toNat + d < Config.nowBound) :
    tick d s = .next { s with now := s.nowPlus d } := by
  rw [tick, if_neg (Nat.one_le_iff_ne_zero.1 hd), if_pos hb]

/-! ### The statements -/

/-- Settles O36, register by register: the packed words by the sums of their fields. -/
theorem registerReadMap : Obligations.RegisterReadMap := by
  intro s off rest h h8 hlt
  rw [step_agenda h, perform, hostRead_legal h8 hlt, regRead_agenda,
    ← BitVec.setWidth_eq (regRead off s), ← BitVec.ofNat_toNat]
  congr 4
  unfold regRead
  split
  -- the registers of 64 bits
  case h_1 | h_3 | h_4 | h_12 | h_13 | h_14 | h_16 => rfl
  -- STATUS
  case h_2 => rw [statusWord_toNat, Phase.code_toNat, ResultCode.code_toNat]; rfl
  -- the narrower configuration registers
  case h_5 | h_6 | h_7 | h_8 | h_9 | h_11 => exact BitVec.toNat_setWidth_of_le (by decide)
  -- CFG_CTL
  case h_10 => exact cfgCtlWord_toNat s
  -- RXINFO
  case h_15 => exact rxinfoWord_toNat s
  -- CKSTATE
  case h_17 => exact ckstateWord_toNat s
  -- every other offset
  case h_18 => simp_all only [imp_false, reduceIte, BitVec.toNat_zero]

/-- Settles O37, register by register. -/
theorem registerWriteMap : Obligations.RegisterWriteMap := by
  intro s off v rest h h8 hlt h0
  rw [step_agenda h, perform, hostWrite_register h8 hlt h0]
  refine congrArg (Host.Outcome.next ∘ State.answered rest .done) ?_
  unfold regWrite
  split
  -- STATUS
  case h_1 => exact clearSticky_eq v s
  -- the five link registers
  case h_2 | h_3 | h_4 | h_5 | h_6 => exact configure_linkLock _ s
  -- CFG_CTL, CFG_MAXRETRY and the counters
  case h_7 | h_8 | h_9 | h_10 | h_11 => rfl
  -- every other offset
  case h_12 => simp_all only [imp_false, reduceIte]

/-- Settles O38. -/
theorem illegalAccessIsBusError : Obligations.IllegalAccessIsBusError := by
  intro s off width v rest h hillegal
  have hl : legalAccess off width = false :=
    eq_false_of_ne_true fun ht => hillegal ((legalAccess_iff off width).1 ht)
  rcases h with h | h
  · rw [step_agenda h, perform, hostWrite_illegal hl]
  · rw [step_agenda h, perform, hostRead_illegal hl]

/-- Settles O40. -/
theorem arrivalsAndTicks : Obligations.ArrivalsAndTicks := by
  constructor
  · intro s b rest h
    rw [step_agenda h, perform, rxArrive_eq]
  · intro s d rest h hd hb
    rw [step_agenda h]
    exact tick_next hd hb

end Sys2Proof.Machine
end

section
/-! The encodings and what a write to CMD runs (30_encoding.md): decoding and encoding agree, the
words that are no command, the commands step 2 of R121 refuses. -/

namespace Sys2Proof

open Sys2Proof.Certificates

/-! ### The command word -/

/-- A word decodes to a command when its reserved bits are 0 and the map of R125 has its op. -/
theorem decodeCommand_eq_ok_iff {w : Word} {i : Instr} : decodeCommand w = .ok i ↔
    wordZero w = 0#32 ∧ commandOf (wordOp w).toNat (wordA w) (wordB w) = some i := by
  unfold decodeCommand
  split
  · rename_i hz
    cases commandOf (wordOp w).toNat (wordA w) (wordB w) <;> simp [hz]
  · rename_i hz
    simp [hz]

/-- A word made of an assigned op and two operands decodes to that op's command. -/
theorem decodeCommand_commandWord {op a : BitVec 8} {b : BitVec 16} {i : Instr}
    (h : commandOf op.toNat a b = some i) : decodeCommand (commandWord op a b) = .ok i :=
  decodeCommand_eq_ok_iff.2 ⟨wordZero_commandWord op a b, by simpa using h⟩

/-- The encoder writes the op that the map of R125 reads. -/
theorem encode_of_commandOf {op : Nat} {a : BitVec 8} {b : BitVec 16} {i : Instr}
    (h : commandOf op a b = some i) :
    encode i = .command (commandWord (BitVec.ofNat 8 op) a b) := by
  unfold commandOf at h
  split at h <;> cases h <;> rfl

/-- The map of R125 gives a command to the 24 opcodes and to no other number. -/
theorem commandOf_eq_none_iff (op : Nat) (a : BitVec 8) (b : BitVec 16) :
    commandOf op a b = none ↔ op ∉ opcodes := by
  unfold commandOf
  split
  -- an op outside the map
  case h_25 => simp_all [opcodes]
  -- the 24 rows
  all_goals simp [opcodes]

/-- What decodes to no command, by the word's fields. -/
theorem decodeCommand_ne_ok_iff (w : Word) : (∀ i, decodeCommand w ≠ .ok i) ↔
    wordZero w ≠ 0#32 ∨ (wordOp w).toNat ∉ opcodes := by
  rw [← commandOf_eq_none_iff _ (wordA w) (wordB w), Option.eq_none_iff_forall_ne_some]
  simp only [ne_eq, decodeCommand_eq_ok_iff, not_and, ← imp_iff_not_or]
  exact forall_comm

/-! ### The wire header -/

/-- The decoder picks the row by the control byte's bit 2 and reads every field back. -/
theorem decodeHeader_headerBytes (m r : BitVec 1) (addr : BitVec 7) (len : BitVec 16) (x : BitVec 5)
    (seq : BitVec 2) : decodeHeader (headerBytes m r addr len x seq) =
      .ok (if m.getLsbD 0 then .frameCrc16 r addr len x seq else .frameSum8 r addr len x seq) := by
  obtain ⟨hr, haddr⟩ := header_address r addr
  obtain ⟨hx, hseq⟩ := header_control x m seq
  simp only [decodeHeader, headerBytes, header_mode, header_length, hr, haddr, hx, hseq, reduceIte]
  split <;> rfl

/-- Five bytes that decode are the header bytes of their fields. -/
theorem headerBytes_of_fields (address lenLo lenHi ctrl : Byte) {m : BitVec 1}
    (h : m.getLsbD 0 = ctrl.getLsbD 2) :
    headerBytes m (address.extractLsb' 7 1) (address.extractLsb' 0 7) (lenHi ++ lenLo)
      (ctrl.extractLsb' 3 5) (ctrl.extractLsb' 0 2) = [0x53#8, address, lenLo, lenHi, ctrl] := by
  obtain ⟨hlo, hhi, -⟩ := length_split lenHi lenLo
  rw [headerBytes, address_split, hlo, hhi, control_split ctrl m h]

/-- A header that decodes is the encoding of what it decodes to. -/
theorem encode_of_decodeHeader {bytes : List Byte} {i : Instr} (h : decodeHeader bytes = .ok i) :
    encode i = .header bytes := by
  unfold decodeHeader at h
  split at h
  · rename_i lead address lenLo lenHi ctrl
    split at h
    · rename_i hlead
      subst hlead
      split at h <;> rename_i hm <;> cases h
      · exact congrArg Encoded.header (headerBytes_of_fields address lenLo lenHi ctrl hm.symm)
      · exact congrArg Encoded.header
          (headerBytes_of_fields address lenLo lenHi ctrl (eq_false_of_ne_true hm).symm)
    · cases h
  · cases h

/-! ### The must-be-zero bits -/

/-- A number has no bit from k up exactly when it is below `2^k`. -/
theorem and_upperMask_eq_zero_iff {w : Nat} (k : Nat) (v : BitVec w) :
    v &&& (BitVec.allOnes w <<< k) = 0#w ↔ v.toNat < 2 ^ k := by
  have hle : v.toNat / 2 ^ k * 2 ^ k < 2 ^ w := (Nat.div_mul_le_self ..).trans_lt v.isLt
  rw [← BitVec.shiftLeft_ushiftRight, ← BitVec.toNat_inj, BitVec.toNat_shiftLeft,
    BitVec.toNat_ushiftRight, Nat.shiftRight_eq_div_pow, Nat.shiftLeft_eq, Nat.mod_eq_of_lt hle]
  simp [Nat.div_eq_zero_iff]

/-- The mask of b[15:1]. -/
theorem mask15_zero_iff (b : BitVec 16) : b &&& 0xFFFE#16 = 0#16 ↔ b.toNat ≤ 1 :=
  (and_upperMask_eq_zero_iff 1 b).trans Nat.lt_succ_iff

/-- The mask of b[15:2]. -/
theorem mask14_zero_iff (b : BitVec 16) : b &&& 0xFFFC#16 = 0#16 ↔ b.toNat ≤ 3 :=
  (and_upperMask_eq_zero_iff 2 b).trans Nat.lt_succ_iff

/-- The mask of b[15:9]. -/
theorem mask7_zero_iff (b : BitVec 16) : b &&& 0xFE00#16 = 0#16 ↔ b.toNat < 2 ^ 9 :=
  and_upperMask_eq_zero_iff 9 b

/-- The mask of the whole of a. -/
theorem maskA_eq (a : BitVec 8) : a &&& 0xFF#8 = a := BitVec.and_allOnes

/-- The mask of the whole of b. -/
theorem maskB_eq (b : BitVec 16) : b &&& 0xFFFF#16 = b := BitVec.and_allOnes

/-- A command has no length to check. -/
theorem Instr.wellFormed_command {i : Instr} (h : i.isCommand = true) (n : Nat) :
    i.wellFormed n = (i.operandBitsOk && i.slotOk n) := by
  have hlen : i.lengthOk = true := by
    cases i with
    | frameSum8 | frameCrc16 => cases h
    | _ => rfl
  rw [Instr.wellFormed, hlen, Bool.and_true]

end Sys2Proof

namespace Sys2Proof.Machine

open Sys2Proof.Certificates

/-! ### Which operands a form accepts, by the masks of R124 -/

theorem Operands.empty_isSome (a : BitVec 8) (b : BitVec 16) : (Operands.empty a b).isSome =
    ((a &&& 0xFF#8 == 0#8) && (b &&& 0xFFFF#16 == 0#16)) := by
  rw [maskA_eq, maskB_eq, Operands.empty_eq]
  grind

theorem Operands.mode_isSome (a : BitVec 8) (b : BitVec 16) : (Operands.mode a b).isSome =
    ((a &&& 0xFF#8 == 0#8) && (b &&& 0xFFFE#16 == 0#16)) := by
  simp only [Operands.mode_eq, maskA_eq, ← mask15_zero_iff]
  grind

theorem Operands.byte_isSome (a : BitVec 8) (b : BitVec 16) : (Operands.byte a b).isSome =
    ((a &&& 0x00#8 == 0#8) && (b &&& 0xFFFF#16 == 0#16)) := by
  rw [BitVec.and_zero, maskB_eq, Operands.byte_eq]
  grind

theorem Operands.half_isSome (a : BitVec 8) (b : BitVec 16) : (Operands.half a b).isSome =
    ((a &&& 0xFF#8 == 0#8) && (b &&& 0x0000#16 == 0#16)) := by
  rw [maskA_eq, BitVec.and_zero, Operands.half_eq]
  grind

theorem Operands.frame_isSome (a : BitVec 8) (b : BitVec 16) : (Operands.frame a b).isSome =
    ((a &&& 0x00#8 == 0#8) && (b &&& 0xFFFC#16 == 0#16)) := by
  simp only [Operands.frame_eq, BitVec.and_zero, ← mask14_zero_iff]
  grind

section Slot

variable (a : BitVec 8) (b : BitVec 16) (s : State)

theorem Operands.slotOnly_isSome : (Operands.slotOnly a b s).isSome =
    ((a &&& 0x00#8 == 0#8) && (b &&& 0xFFFF#16 == 0#16) && decide (a.toNat < s.slaves.length)) := by
  rw [BitVec.and_zero, maskB_eq, Operands.slotOnly_eq]
  grind

theorem Operands.slotFlag_isSome : (Operands.slotFlag a b s).isSome =
    ((a &&& 0x00#8 == 0#8) && (b &&& 0xFFFE#16 == 0#16) && decide (a.toNat < s.slaves.length)) := by
  simp only [Operands.slotFlag_eq, BitVec.and_zero, ← mask15_zero_iff]
  grind

theorem Operands.slotPair_isSome : (Operands.slotPair a b s).isSome =
    ((a &&& 0x00#8 == 0#8) && (b &&& 0xFFFC#16 == 0#16) && decide (a.toNat < s.slaves.length)) := by
  simp only [Operands.slotPair_eq, BitVec.and_zero, ← mask14_zero_iff]
  grind

theorem Operands.slotConfig_isSome : (Operands.slotConfig a b s).isSome =
    ((a &&& 0x00#8 == 0#8) && (b &&& 0xFE00#16 == 0#16) && decide (a.toNat < s.slaves.length)) := by
  simp only [Operands.slotConfig_eq, BitVec.and_zero, ← mask7_zero_iff]
  grind

end Slot

/-! ### Refused operands -/

/-- Operands a form does not accept end the command with BADARG (30_encoding.md R121 step 2). -/
theorem withOperands_refused {α : Type} {o : Option α} (h : o.isSome = false) (s : State)
    (k : α → State) : withOperands o s k = badArg s := by
  rw [Option.isNone_iff_eq_none.1 (Option.isSome_eq_false_iff.1 h)]
  rfl

/-- A command whose form accepts just its well-formed operands refuses the others. -/
theorem exec_illFormed {α : Type} {i : Instr} {s : State} {o : Option α} {k : α → State}
    (hexec : exec i s = .next (withOperands o s k))
    (hform : o.isSome = (i.operandBitsOk && i.slotOk s.slaves.length))
    (hill : (i.operandBitsOk && i.slotOk s.slaves.length) = false) :
    exec i s = .next (badArg s) := by
  rw [hexec, withOperands_refused (hform.trans hill)]

/-- The same for a command that takes no slot. -/
theorem exec_badBits {α : Type} {i : Instr} {s : State} {o : Option α} {k : α → State}
    (hexec : exec i s = .next (withOperands o s k)) (hform : o.isSome = i.operandBitsOk)
    (hslot : i.takesSlot = false)
    (hill : (i.operandBitsOk && i.slotOk s.slaves.length) = false) :
    exec i s = .next (badArg s) :=
  exec_illFormed hexec (by rw [hform, Instr.slotOk, hslot]; exact (Bool.and_true _).symm) hill

/-! ### HOST's write to CMD -/

section Turn

variable {s : State} {w : Word} {rest : List Event}

/-- A write to CMD while BUSY = 0 runs the word. -/
theorem step_cmd_idle (h : s.agenda = .write 0 8 w :: rest) (hb : s.busy = false) :
    step s = runCommand w { s with agenda := rest, bus := .done } := by
  rw [step_agenda h, perform, hostWrite, if_pos (by decide), if_pos rfl]
  exact if_neg (ne_true_of_eq_false hb)

/-- A write to CMD while BUSY = 1 is discarded (30_encoding.md R122). -/
theorem step_cmd_busy (h : s.agenda = .write 0 8 w :: rest) (hb : s.busy = true) :
    step s = .next { s with agenda := rest, bus := .done, cmdovr := true } := by
  rw [step_agenda h, perform, hostWrite, if_pos (by decide), if_pos rfl]
  exact if_pos hb

end Turn

theorem runCommand_ok {w : Word} {i : Instr} (h : decodeCommand w = .ok i) (s : State) :
    runCommand w s = exec i { s with lastcmd := w } := by
  rw [runCommand, h]

theorem runCommand_illegal {w : Word} (h : ∀ i, decodeCommand w ≠ .ok i) (s : State) :
    runCommand w s = .next (({ s with lastcmd := w } : State).refuse .badCmd) := by
  unfold runCommand
  split
  case h_1 i hi => exact absurd hi (h i)
  case h_2 => rfl

/-! ### The statements -/

/-- Settles O1: a command through its op's row of R125, a header through its fields. -/
theorem decodeEncodeAgree : Obligations.DecodeEncodeAgree := by
  intro i
  cases i with
  | frameSum8 r addr len x seq => exact decodeHeader_headerBytes 0#1 r addr len x seq
  | frameCrc16 r addr len x seq => exact decodeHeader_headerBytes 1#1 r addr len x seq
  | _ a b => exact decodeCommand_commandWord rfl

/-- Settles O2: a word is made of its fields, and a header of its. -/
theorem encodeDecodeAgree : Obligations.EncodeDecodeAgree := by
  intro e i h
  cases e with
  | header bytes => exact encode_of_decodeHeader h
  | command w =>
    obtain ⟨hzero, hop⟩ := decodeCommand_eq_ok_iff.1 h
    rw [encode_of_commandOf hop, BitVec.ofNat_toNat, BitVec.setWidth_eq,
      commandWord_of_fields w hzero]

/-- Settles O3: the fields of the word as arithmetic on it. -/
theorem illegalCommandWordsExactly : Obligations.IllegalCommandWordsExactly := by
  intro w
  rw [decodeCommand_ne_ok_iff, ne_eq, wordZero_eq_zero, wordOp_toNat]

/-- Settles O4: nine closed words. -/
theorem wordsOfTheSpecDecode : Obligations.WordsOfTheSpecDecode := by
  unfold Obligations.WordsOfTheSpecDecode
  decide

/-- Settles O5: the idle write of a word that decodes. -/
theorem stepRunsDecodedCommand : Obligations.StepRunsDecodedCommand := by
  intro s w rest i h hb hd
  rw [step_cmd_idle h hb, runCommand_ok hd]

/-- Settles O7: by O3 the word decodes to no command. -/
theorem illegalCommandRaisesBadCmd : Obligations.IllegalCommandRaisesBadCmd := by
  intro s w rest h hb hw
  rw [step_cmd_idle h hb, runCommand_illegal ((illegalCommandWordsExactly w).2 hw)]
  rfl

/-- Settles O8: the busy write. -/
theorem commandWhileBusyDropped : Obligations.CommandWhileBusyDropped := by
  intro s w rest h hb
  exact step_cmd_busy h hb

/-- Settles O9, by the command's operand form. -/
theorem illFormedCommandRaisesBadArg : Obligations.IllFormedCommandRaisesBadArg := by
  intro s i hc hlen hill
  rw [Instr.wellFormed_command hc, ← hlen] at hill
  cases i with
  | frameSum8 | frameCrc16 => cases hc
  | nop a b | ckfin a b | txpclr a b | resend a b | rdframe a b | idlewait a b | rxflush a b
  | linkopen a b | linkclose a b => exact exec_badBits rfl (Operands.empty_isSome a b) rfl hill
  | ckinit a b => exact exec_badBits rfl (Operands.mode_isSome a b) rfl hill
  | ckfold a b | txppush a b => exact exec_badBits rfl (Operands.byte_isSome a b) rfl hill
  | ckvfy a b | rxrd a b => exact exec_badBits rfl (Operands.half_isSome a b) rfl hill
  | wrframe a b => exact exec_badBits rfl (Operands.frame_isSome a b) rfl hill
  | slcfg a b => exact exec_illFormed rfl (Operands.slotConfig_isSome a b s) hill
  | slen a b => exact exec_illFormed rfl (Operands.slotFlag_isSome a b s) hill
  | slrd a b | slsrx a b => exact exec_illFormed rfl (Operands.slotPair_isSome a b s) hill
  | slack a b | slnak a b | slnakr a b | sltkl a b | slqry a b =>
    exact exec_illFormed rfl (Operands.slotOnly_isSome a b s) hill

end Sys2Proof.Machine
end

section
/-! The checksum functions and the commands that give HOST the engine (40_checksum.md): the two forms
of the CRC step, the laws of the fold, the detection of a changed byte, CKINIT, CKFOLD, CKFIN, CKVFY. -/

namespace Sys2Proof.Machine

open Sys2Proof.Certificates

/-! ### The CRC step as the source's formula (R162) -/

/-- x of R162, a byte. -/
def crcFold (acc : BitVec 16) (b : Byte) : Byte :=
  let x := acc.extractLsb' 8 8 ^^^ b
  x ^^^ (x >>> 4)

theorem crcStep_eq_crcFold (acc : BitVec 16) (b : Byte) :
    crcStep acc b = (acc <<< 8) ^^^ ((crcFold acc b).setWidth 16 <<< 12) ^^^
      ((crcFold acc b).setWidth 16 <<< 5) ^^^ (crcFold acc b).setWidth 16 := rfl

theorem crcFold_toNat (acc : BitVec 16) (b : Byte) : (crcFold acc b).toNat =
    ((acc.toNat >>> 8) ^^^ b.toNat) ^^^ (((acc.toNat >>> 8) ^^^ b.toNat) >>> 4) := by
  have hhi : acc.toNat >>> 8 % 2 ^ 8 = acc.toNat >>> 8 := by
    have := acc.isLt
    rw [Nat.shiftRight_eq_div_pow]
    omega
  simp only [crcFold, BitVec.toNat_xor, BitVec.toNat_ushiftRight, BitVec.extractLsb'_toNat, hhi]

/-! ### Functions that keep exclusive-ors -/

/-- The function keeps exclusive-ors: it is linear over bits. -/
def XorLinear {v w : Nat} (f : BitVec v → BitVec w) : Prop := ∀ x y, f (x ^^^ y) = f x ^^^ f y

theorem XorLinear.map_zero {v w : Nat} {f : BitVec v → BitVec w} (hf : XorLinear f) :
    f 0#v = 0#w := by
  have h := hf 0#v 0#v
  rwa [BitVec.xor_self, BitVec.xor_self] at h

theorem XorLinear.iterate {w : Nat} {f : BitVec w → BitVec w} (hf : XorLinear f) (n : Nat) :
    XorLinear f^[n] := by
  induction n with
  | zero => exact fun _ _ => rfl
  | succ n ih =>
    intro x y
    rw [Function.iterate_succ_apply, hf, ih]
    rfl

/-- Two such functions that agree on each single bit agree: by induction on n they agree on the words
whose bits are all below n. -/
theorem XorLinear.eq_of_bits {v w : Nat} {f g : BitVec v → BitVec w} (hf : XorLinear f)
    (hg : XorLinear g) (hbit : ∀ k < v, f (BitVec.twoPow v k) = g (BitVec.twoPow v k)) : f = g := by
  have low (n : Nat) : ∀ x : BitVec v, (∀ i ≥ n, x.getLsbD i = false) → f x = g x := by
    induction n with
    | zero =>
      intro x hx
      have h0 : x = 0#v := BitVec.eq_of_getLsbD_eq fun i _ => by simp [hx i]
      rw [h0, hf.map_zero, hg.map_zero]
    | succ n ih =>
      intro x hx
      by_cases hn : x.getLsbD n = true
      · have hv : n < v := BitVec.lt_of_getLsbD hn
        have hrest : f (x ^^^ BitVec.twoPow v n) = g (x ^^^ BitVec.twoPow v n) := by
          refine ih _ fun i hi => ?_
          rcases eq_or_ne i n with rfl | hne
          · simp [hn, hv]
          · simp [hx i (by omega), hne.symm]
        have hsplit : x = (x ^^^ BitVec.twoPow v n) ^^^ BitVec.twoPow v n := by
          rw [BitVec.xor_assoc, BitVec.xor_self, BitVec.xor_zero]
        rw [hsplit, hf, hg, hrest, hbit n hv]
      · refine ih x fun i hi => ?_
        rcases eq_or_ne i n with rfl | hne
        · exact eq_false_of_ne_true hn
        · exact hx i (by omega)
  exact funext fun x => low v x fun i hi => BitVec.getLsbD_of_ge x i hi

/-! ### The CRC step as eight bitwise steps (R169) -/

theorem crcBit_xorLinear : XorLinear crcBit := by
  have hpoly (a b : Bool) : (if (a ^^ b) = true then 0x1021#16 else 0) =
      (if a = true then 0x1021#16 else 0) ^^^ (if b = true then 0x1021#16 else 0) := by
    cases a <;> cases b <;> rfl
  intro x y
  simp only [crcBit, BitVec.shiftLeft_xor_distrib, BitVec.getLsbD_xor, hpoly]
  ac_rfl

theorem crcStep_zero_xorLinear : XorLinear (crcStep · 0#8) := by
  intro x y
  simp only [crcStep, BitVec.shiftLeft_xor_distrib, BitVec.ushiftRight_xor_distrib,
    BitVec.xor_zero, BitVec.extractLsb'_xor, BitVec.setWidth_xor]
  ac_rfl

/-- A byte in the high half is read back from there. -/
theorem highByte_shiftLeft (b : Byte) : (b.setWidth 16 <<< 8).extractLsb' 8 8 = b := by
  refine BitVec.eq_of_getLsbD_eq fun i hi => ?_
  simp [hi, show 8 + i < 16 by omega]

/-- The byte enters the CRC through the high half of the accumulator alone. -/
theorem crcStep_eq_crcStep_zero (acc : BitVec 16) (b : Byte) :
    crcStep acc b = crcStep (acc ^^^ (b.setWidth 16 <<< 8)) 0#8 := by
  have hout : b.setWidth 16 <<< 8 <<< 8 = 0#16 := by
    rw [← BitVec.shiftLeft_add, BitVec.shiftLeft_eq_zero (Nat.le_refl 16)]
  simp only [crcStep, BitVec.extractLsb'_xor, BitVec.shiftLeft_xor_distrib, highByte_shiftLeft, hout,
    BitVec.xor_zero]

/-- Both sides keep exclusive-ors, so the sixteen single bits decide the equality of R169. -/
theorem crcStep_eq_iterate_crcBit (acc : BitVec 16) (b : Byte) :
    crcStep acc b = crcBit^[8] (acc ^^^ (b.setWidth 16 <<< 8)) := by
  have hbits : (crcStep · 0#8) = crcBit^[8] :=
    crcStep_zero_xorLinear.eq_of_bits (crcBit_xorLinear.iterate 8) (by decide)
  rw [crcStep_eq_crcStep_zero, ← hbits]

/-! ### A CRC step loses nothing -/

/-- The low bit after a bitwise step is the bit shifted out, so the step can be undone. -/
theorem crcBit_injective : Function.Injective crcBit := by
  intro x y h
  have hlow (r : BitVec 16) : (crcBit r).getLsbD 0 = r.getLsbD 15 := by
    unfold crcBit
    cases r.getLsbD 15 <;> simp
  have htop : x.getLsbD 15 = y.getLsbD 15 := by rw [← hlow, h, hlow]
  have hshift : x <<< 1 = y <<< 1 := by
    rw [crcBit, crcBit, htop] at h
    exact (BitVec.xor_left_inj _).1 h
  refine BitVec.eq_of_getLsbD_eq fun i hi => ?_
  rcases eq_or_ne i 15 with rfl | hne
  · exact htop
  · have hnext := congrArg (·.getLsbD (i + 1)) hshift
    have hi' : i + 1 < 16 := by omega
    simpa [hi', -BitVec.getLsbD_eq_getElem] using hnext

theorem crcStep_injective_acc (b : Byte) : Function.Injective (crcStep · b) := by
  intro acc acc' h
  simp only [crcStep_eq_iterate_crcBit] at h
  exact (BitVec.xor_left_inj _).1 (crcBit_injective.iterate 8 h)

theorem crcStep_injective_byte (acc : BitVec 16) : Function.Injective (crcStep acc) := by
  intro b c h
  simp only [crcStep_eq_iterate_crcBit] at h
  have hhigh := (BitVec.xor_right_inj _).1 (crcBit_injective.iterate 8 h)
  rw [← highByte_shiftLeft b, hhigh, highByte_shiftLeft]

/-! ### The laws of the fold (R168) and the detection of a changed byte (R175) -/

/-- The sum of R163 over a whole sequence (R168 (d)). -/
theorem ckRange_sum_toNat (seed : BitVec 16) (s : List Byte) :
    (ckRange seed false s).toNat = (s.map BitVec.toNat).sum % 256 := by
  induction s using List.reverseRecOn with
  | nil => rfl
  | append_singleton s b ih =>
    have hstep : ckRange seed false (s ++ [b]) = sumStep (ckRange seed false s) b :=
      ckRange_append ..
    rw [hstep, sumStep_toNat, ih]
    simp [Nat.add_mod]

/-- A fold of steps each injective in the accumulator. -/
theorem foldl_injective {α β : Type} {f : β → α → β} (hf : ∀ x, Function.Injective (f · x))
    (l : List α) : Function.Injective (l.foldl f) := by
  induction l with
  | nil => exact fun _ _ h => h
  | cons x l ih => exact fun _ _ h => hf x (ih h)

/-- Changing one byte changes the checksum. The CRC forgets neither the byte nor, in the steps after it,
the difference; the sums of the bytes differ by less than 256. -/
theorem ckRange_ne_of_byte_ne (seed : BitVec 16) (m : Bool) (pre post : List Byte) {b c : Byte}
    (hbc : b ≠ c) : ckRange seed m (pre ++ b :: post) ≠ ckRange seed m (pre ++ c :: post) := by
  intro h
  apply hbc
  cases m with
  | true =>
    rw [ckRange_append, ckRange_append] at h
    exact crcStep_injective_byte _ (foldl_injective crcStep_injective_acc post h)
  | false =>
    have hsum := congrArg BitVec.toNat h
    simp only [ckRange_sum_toNat, List.map_append, List.map_cons, List.sum_append, List.sum_cons]
      at hsum
    have := b.isLt
    have := c.isLt
    exact BitVec.eq_of_toNat_eq (by omega)

theorem flipBit_ne {k : Nat} (hk : k < 8) (b : Byte) : b ^^^ (1#8 <<< k) ≠ b := by
  intro h
  have hbit := congrArg (·.getLsbD k) h
  simp [hk] at hbit

/-! ### The commands (R170 to R173) -/

/-- The word of a command from its encoding. -/
theorem hasWord_of_encode (op : BitVec 8) {i : Instr} {a : BitVec 8} {b : BitVec 16}
    (h : encode i = .command (commandWord op a b)) : hasWord i op.toNat a b := by
  rw [hasWord, h, commandWord_eq]

/-- A command whose operand form is a test runs its body or ends with BADARG. -/
theorem withOperands_ite {α : Type} (c : Prop) [Decidable c] (x : α) (s : State) (k : α → State) :
    withOperands (if c then some x else none) s k = if c then k x else badArg s := by
  split <;> rfl

/-- Completing with the value of a register. -/
theorem done_setWidth {w : Nat} (v : BitVec w) (s : State) :
    s.done (v.setWidth 64) = ends .ok v.toNat s := by
  rw [ends, BitVec.ofNat_toNat]
  rfl

theorem execCkinit_eq (a : BitVec 8) (b : BitVec 16) (s : State) :
    execCkinit a b s = .next (if a = 0 ∧ b.toNat ≤ 1 then
      ends .ok (ckInit s.par.crcSeed (decide (b = 1))).toNat
        { s with mode := decide (b = 1), acc := ckInit s.par.crcSeed (decide (b = 1)) }
      else badArg s) := by
  simp only [execCkinit, Operands.mode_eq, withOperands_ite, done_setWidth]

theorem execCkfold_eq (a : BitVec 8) (b : BitVec 16) (s : State) :
    execCkfold a b s = .next (if b = 0 then
      ends .ok (ckStep s.mode s.acc a).toNat { s with acc := ckStep s.mode s.acc a }
      else badArg s) := by
  simp only [execCkfold, Operands.byte_eq, withOperands_ite, done_setWidth]

theorem execCkfin_eq (a : BitVec 8) (b : BitVec 16) (s : State) :
    execCkfin a b s = .next (if a = 0 ∧ b = 0 then ends .ok s.acc.toNat s else badArg s) := by
  simp only [execCkfin, Operands.empty_eq, withOperands_ite, done_setWidth]

theorem execCkvfy_eq (a : BitVec 8) (b : BitVec 16) (s : State) :
    execCkvfy a b s =
      .next (if a = 0 then ends .ok (if s.acc = b then 1 else 0) s else badArg s) := by
  rw [execCkvfy, Operands.half_eq, withOperands_ite]
  by_cases hacc : s.acc = b
  · rw [if_pos hacc, if_pos hacc]; rfl
  · rw [if_neg hacc, if_neg hacc]; rfl

/-! ### The checksum bytes as numbers (R166, R173) -/

theorem lowByte_eq_iff (v : BitVec 16) (lo : Byte) :
    v.extractLsb' 0 8 = lo ↔ v.toNat % 256 = lo.toNat := by
  rw [← BitVec.toNat_inj, BitVec.extractLsb'_toNat, Nat.shiftRight_zero]

theorem highByte_eq_iff (v : BitVec 16) (hi : Byte) :
    v.extractLsb' 8 8 = hi ↔ v.toNat / 256 = hi.toNat := by
  have := v.isLt
  rw [← BitVec.toNat_inj, BitVec.extractLsb'_toNat, Nat.shiftRight_eq_div_pow, Nat.mod_eq_of_lt]
  omega

/-- The trailer of a sum is its one byte. -/
theorem eq_trailer_sum_iff {v : BitVec 16} (hv : v.toNat < 256) (lo : Byte) :
    v = BitVec.ofNat 16 lo.toNat ↔ ckBytes false v = [lo] := by
  have hbytes : ckBytes false v = [v.extractLsb' 0 8] := rfl
  have := lo.isLt
  rw [hbytes, List.singleton_inj, lowByte_eq_iff, ← BitVec.toNat_inj, BitVec.toNat_ofNat]
  omega

/-- The trailer of a CRC is its two bytes, low byte first. -/
theorem eq_trailer_crc_iff (v : BitVec 16) (lo hi : Byte) :
    v = BitVec.ofNat 16 (lo.toNat + 256 * hi.toNat) ↔ ckBytes true v = [lo, hi] := by
  have hbytes : ckBytes true v = [v.extractLsb' 0 8, v.extractLsb' 8 8] := rfl
  have := lo.isLt
  have := hi.isLt
  rw [hbytes, List.cons.injEq, List.singleton_inj, lowByte_eq_iff, highByte_eq_iff,
    ← BitVec.toNat_inj, BitVec.toNat_ofNat]
  omega

/-! ### The statements -/

/-- Settles O31: x is a byte, so truncating each term or the whole is the same. -/
theorem crcStepIsTheSourceFormula : Obligations.CrcStepIsTheSourceFormula := by
  intro acc b x0 x
  have hx : (crcFold acc b).toNat = x := crcFold_toNat acc b
  have hbyte : x % 2 ^ 16 = x := by
    have := (crcFold acc b).isLt
    omega
  simp only [crcStep_eq_crcFold, BitVec.toNat_xor, BitVec.toNat_shiftLeft, BitVec.toNat_setWidth,
    Nat.xor_mod_two_pow, hx, hbyte]

/-- Settles O32. -/
theorem crcStepIsBitwisePolynomial : Obligations.CrcStepIsBitwisePolynomial :=
  crcStep_eq_iterate_crcBit

/-- Settles O33: (b) computes, (c) is the fold in two parts, (d) the sum of the bytes. -/
theorem checksumLaws : Obligations.ChecksumLaws :=
  ⟨fun _ _ _ => beq_self_eq_true _, fun _ => ⟨rfl, rfl⟩, ckRange_append, ckRange_sum_toNat⟩

/-- Settles O34: a flipped bit is a changed byte. -/
theorem singleBitFlipDetected : Obligations.SingleBitFlipDetected :=
  fun seed m pre post b _ hk => ckRange_ne_of_byte_ne seed m pre post (flipBit_ne hk b)

/-- Settles O11: the mode b names picks the seed or 0. -/
theorem ckinitLoadsSeedOrZero : Obligations.CkinitLoadsSeedOrZero := by
  intro s a b
  refine ⟨hasWord_of_encode 0x10#8 rfl, (execCkinit_eq a b s).trans ?_⟩
  by_cases hb : b = 1
  · simp only [hb, decide_true, if_true]
    rfl
  · simp only [hb, decide_false, if_false]
    rfl

/-- Settles O12: the body of CKFOLD, and ck_step in each mode. -/
theorem ckfoldFoldsOneByte : Obligations.CkfoldFoldsOneByte := by
  intro s a b _
  refine ⟨hasWord_of_encode 0x11#8 rfl, execCkfold_eq a b s, fun hm => ?_, fun hm => ?_⟩
  · rw [hm]; rfl
  · rw [hm]; rfl

/-- Settles O13. In mode 0 the invariant keeps ACC below any operand of 256 or more. -/
theorem ckfinCkvfyReadTheEngine : Obligations.CkfinCkvfyReadTheEngine := by
  refine ⟨fun s a b => ⟨hasWord_of_encode 0x12#8 rfl, execCkfin_eq a b s⟩,
    fun s a b => ⟨hasWord_of_encode 0x13#8 rfl, execCkvfy_eq a b s⟩, fun s b hi hm hb => ?_,
    fun v lo hv => eq_trailer_sum_iff hv lo, eq_trailer_crc_iff⟩
  have hne : s.acc ≠ b := by
    rintro rfl
    exact absurd (hi.sum_small hm) (Nat.not_lt.2 hb)
  exact (execCkvfy_eq 0 b s).trans (by rw [if_pos rfl, if_neg hne])

end Sys2Proof.Machine
end

section
/-! The frame codec and the host-visible checksum engine are independent (40_checksum.md R174): giving
the engine another content commutes with SEQ's turn and with the codec's instructions. -/

namespace Sys2Proof

/-- The instructions of the frame codec: the issue of a long command, and a received header. -/
def Instr.isCodec : Instr → Bool
  | .wrframe .. | .resend .. | .rdframe .. | .idlewait .. | .frameSum8 .. | .frameCrc16 .. => true
  | _ => false

end Sys2Proof

namespace Sys2Proof.Machine

/-- The same state with another content of the checksum engine. -/
def State.withEngine (acc : BitVec 16) (mode : Bool) (s : State) : State :=
  { s with acc := acc, mode := mode }

/-- The same move with another content of the checksum engine. -/
def SeqMove.withEngine (acc : BitVec 16) (mode : Bool) : SeqMove → SeqMove
  | .wait => .wait
  | .moved s => .moved (s.withEngine acc mode)
  | .header s => .header (s.withEngine acc mode)

section Engine

variable (acc : BitVec 16) (mode : Bool) (s : State)

/-! ### The shared operations -/

theorem countFlyBy_withEngine :
    s.countFlyBy.withEngine acc mode = (s.withEngine acc mode).countFlyBy := apply_ite ..

theorem stampIf_withEngine (d : Bool) :
    (s.stampIf d).withEngine acc mode = (s.withEngine acc mode).stampIf d := apply_ite ..

theorem setPh_withEngine {u v : State} (h : u.withEngine acc mode = v) (p : Phase) :
    State.withEngine acc mode { u with ph := p } = { v with ph := p } := by
  rw [← h]
  rfl

theorem enterFlyBy_withEngine (m : Bool) (len : BitVec 16) (header : List Byte) :
    (enterFlyBy m len header s).withEngine acc mode =
      enterFlyBy m len header (s.withEngine acc mode) := by
  unfold enterFlyBy
  rw [apply_ite (State.withEngine acc mode)]
  exact congrArg (ite _ · _) (setPh_withEngine acc mode (countFlyBy_withEngine acc mode _) _)

theorem evaluateHeader_withEngine (m : Bool) (address : Byte) (len : BitVec 16) (ctrl : Byte)
    (header : List Byte) :
    (evaluateHeader m address len ctrl header s).withEngine acc mode =
      evaluateHeader m address len ctrl header (s.withEngine acc mode) := by
  simp only [evaluateHeader, apply_ite (State.withEngine acc mode), enterFlyBy_withEngine]
  rfl

theorem frameDone_withEngine :
    s.frameDone.withEngine acc mode = (s.withEngine acc mode).frameDone := apply_ite ..

theorem withOperands_withEngine {α : Type} {o : Option α} {k k' : α → State}
    (hk : ∀ x, (k x).withEngine acc mode = k' x) :
    (withOperands o s k).withEngine acc mode = withOperands o (s.withEngine acc mode) k' := by
  cases o with
  | some x => exact hk x
  | none => rfl

theorem whenOpen_withEngine {k : State → State}
    (hk : (k s).withEngine acc mode = k (s.withEngine acc mode)) :
    (whenOpen s k).withEngine acc mode = whenOpen (s.withEngine acc mode) k := by
  rw [whenOpen, apply_ite (State.withEngine acc mode), hk]
  rfl

/-! ### SEQ's steps -/

theorem seqTxWait_withEngine :
    (seqTxWait s).withEngine acc mode = seqTxWait (s.withEngine acc mode) := apply_ite ..

theorem seqTxShift_withEngine :
    (seqTxShift s).withEngine acc mode = seqTxShift (s.withEngine acc mode) := by
  have hbyte : (s.withEngine acc mode).txbuf[(s.withEngine acc mode).txpos]? = s.txbuf[s.txpos]? :=
    rfl
  rw [seqTxShift, seqTxShift, hbyte]
  cases s.txbuf[s.txpos]? with
  | none => rfl
  | some b => exact congrArg SeqMove.moved (apply_ite ..)

theorem seqReceive_withEngine {consume : Byte → State → SeqMove}
    (hc : ∀ b s, (consume b s).withEngine acc mode = consume b (s.withEngine acc mode)) :
    (seqReceive s consume).withEngine acc mode = seqReceive (s.withEngine acc mode) consume := by
  have hfifo : (s.withEngine acc mode).rxfifo = s.rxfifo := rfl
  rw [seqReceive, seqReceive, hfifo]
  cases s.rxfifo with
  | nil => exact apply_ite ..
  | cons b rest => exact hc b _

theorem seqRxScan_withEngine (b : Byte) (s : State) :
    (seqRxScan b s).withEngine acc mode = seqRxScan b (s.withEngine acc mode) :=
  congrArg SeqMove.moved (apply_ite ..)

theorem seqRxHdr_withEngine (b : Byte) (s : State) :
    (seqRxHdr b s).withEngine acc mode = seqRxHdr b (s.withEngine acc mode) := apply_ite ..

theorem seqRxBody_withEngine (b : Byte) (s : State) :
    (seqRxBody b s).withEngine acc mode = seqRxBody b (s.withEngine acc mode) := by
  refine congrArg SeqMove.moved ((apply_ite ..).trans ?_)
  rw [frameDone_withEngine]
  rfl

theorem seqFbBody_withEngine (b : Byte) (s : State) :
    (seqFbBody b s).withEngine acc mode = seqFbBody b (s.withEngine acc mode) := by
  refine congrArg SeqMove.moved ((apply_ite ..).trans (congrArg (ite _ · _) ?_))
  refine setPh_withEngine acc mode ((apply_ite ..).trans ?_) .rxScan
  rw [countFlyBy_withEngine]
  rfl

theorem seqIdleWt_withEngine :
    (seqIdleWt s).withEngine acc mode = seqIdleWt (s.withEngine acc mode) := by
  have hfifo : (s.withEngine acc mode).rxfifo = s.rxfifo := rfl
  rw [seqIdleWt, seqIdleWt, hfifo]
  cases s.rxfifo with
  | nil =>
    refine (apply_ite ..).trans (congrArg (ite _ · SeqMove.wait) ?_)
    exact congrArg (SeqMove.moved <| State.done s.disc ·) (stampIf_withEngine ..)
  | cons b rest => rfl

/-- SEQ's step, phase by phase. -/
theorem seqStep_withEngine : (seqStep s).withEngine acc mode = seqStep (s.withEngine acc mode) := by
  have hbusy : (s.withEngine acc mode).busy = s.busy := rfl
  have hph : (s.withEngine acc mode).ph = s.ph := rfl
  rw [seqStep, seqStep, hbusy, hph, apply_ite (SeqMove.withEngine acc mode)]
  refine congrArg (ite _ · _) ?_
  cases s.ph with
  | idle => rfl
  | txWait => exact seqTxWait_withEngine ..
  | txShift => exact seqTxShift_withEngine ..
  | rxScan => exact seqReceive_withEngine acc mode s (seqRxScan_withEngine acc mode)
  | rxHdr => exact seqReceive_withEngine acc mode s (seqRxHdr_withEngine acc mode)
  | rxBody => exact seqReceive_withEngine acc mode s (seqRxBody_withEngine acc mode)
  | fbBody => exact seqReceive_withEngine acc mode s (seqFbBody_withEngine acc mode)
  | idleWt => exact seqIdleWt_withEngine ..

/-! ### The codec's instructions and SEQ's turn -/

/-- An instruction of the codec does the same beside any engine, and keeps it. -/
theorem exec_withEngine {i : Instr} (hi : i.isCodec = true) : ∃ t, exec i s = .next t ∧
    exec i (s.withEngine acc mode) = .next (t.withEngine acc mode) := by
  suffices h : ∃ k : State → State, (∀ u, exec i u = .next (k u)) ∧
      (k s).withEngine acc mode = k (s.withEngine acc mode) by
    obtain ⟨k, hk, hcomm⟩ := h
    exact ⟨k s, hk s, by rw [hk, hcomm]⟩
  cases i with
  | frameSum8 | frameCrc16 => exact ⟨_, fun _ => rfl, evaluateHeader_withEngine ..⟩
  | wrframe | rdframe | idlewait =>
    exact ⟨_, fun _ => rfl, withOperands_withEngine acc mode s fun _ =>
      whenOpen_withEngine acc mode s rfl⟩
  | resend =>
    exact ⟨_, fun _ => rfl, withOperands_withEngine acc mode s fun _ =>
      whenOpen_withEngine acc mode s (apply_ite ..)⟩
  | _ => cases hi

theorem isCodec_of_decodeHeader {bytes : List Byte} {i : Instr} (h : decodeHeader bytes = .ok i) :
    i.isCodec = true := by
  obtain ⟨r, addr, len, x, seq, ⟨rfl, -⟩ | ⟨rfl, -⟩⟩ := decodeHeader_cases h
  · rfl
  · rfl

theorem seqTurn_header {s s1 : State} {i : Instr} (hs : seqStep s = .header s1)
    (hd : decodeHeader s1.rxbuf = .ok i) : seqTurn s = exec i s1 := by
  rw [seqTurn, hs]
  dsimp only
  rw [hd]

/-- SEQ's turn does the same beside any engine, and keeps it. -/
theorem seqTurn_withEngine {t : State} (h : seqTurn s = .next t) :
    seqTurn (s.withEngine acc mode) = .next (t.withEngine acc mode) := by
  have hcomm := seqStep_withEngine acc mode s
  rcases seqTurn_cases h with ⟨hs, rfl⟩ | hs | ⟨s1, i, hs, hd, he⟩
  · rw [seqTurn, ← hcomm, hs]; rfl
  · rw [seqTurn, ← hcomm, hs]; rfl
  · rw [hs] at hcomm
    obtain ⟨t', ht, hE⟩ := exec_withEngine acc mode s1 (isCodec_of_decodeHeader hd)
    rw [he] at ht
    cases ht
    rw [seqTurn_header hcomm.symm hd, hE]

end Engine

/-- Settles O50. -/
theorem codecIgnoresEngine : Obligations.CodecIgnoresEngine := by
  intro s acc mode
  refine ⟨fun t h => seqTurn_withEngine acc mode s h, fun a b i hi => ?_⟩
  exact exec_withEngine acc mode s (by rcases hi with rfl | rfl | rfl | rfl <;> rfl)

end Sys2Proof.Machine
end

section
/-! The frame encoder (41_frame_encode.md): the bytes of a frame, the commands that stage, send and
resend it, and the transmit phases. -/

namespace Sys2Proof.Machine

open Sys2Proof.Certificates

/-! ### The header's bytes (R193) -/

/-- The length field of a frame for a payload of n bytes. -/
def frameLength (m : Bool) (n : Nat) : BitVec 16 := BitVec.ofNat 16 (5 + n + ckSize m)

/-- The control byte of a frame. -/
def frameControl (q : BitVec 2) (m : Bool) : Byte := q.setWidth 8 ||| (if m then 4#8 else 0#8)

theorem frameHeader_eq (a8 : Byte) (q : BitVec 2) (m : Bool) (n : Nat) : frameHeader a8 q m n =
    [Config.introducer, a8 &&& 0x7F#8, (frameLength m n).extractLsb' 0 8,
      (frameLength m n).extractLsb' 8 8, frameControl q m] := rfl

theorem clearTopBit_toNat (a8 : Byte) : (a8 &&& 0x7F#8).toNat = a8.toNat % 2 ^ 7 :=
  Nat.and_two_pow_sub_one_eq_mod a8.toNat 7

theorem frameLength_lowByte (m : Bool) (n : Nat) :
    ((frameLength m n).extractLsb' 0 8).toNat = (5 + n + ckSize m) % 256 := by
  rw [frameLength, BitVec.extractLsb'_toNat, BitVec.toNat_ofNat, Nat.shiftRight_zero]
  omega

theorem frameLength_highByte (m : Bool) (n : Nat) :
    ((frameLength m n).extractLsb' 8 8).toNat = (5 + n + ckSize m) / 256 % 256 := by
  rw [frameLength, BitVec.extractLsb'_toNat, BitVec.toNat_ofNat, Nat.shiftRight_eq_div_pow]
  omega

theorem frameControl_toNat (q : BitVec 2) (m : Bool) :
    (frameControl q m).toNat = q.toNat + if m then 4 else 0 := by
  revert q m
  decide

/-! ### The commands (R191 to R196) -/

/-- A line command with the link test written out (30_encoding.md R121 step 3). -/
theorem whenOpen_eq (s : State) (k : State → State) :
    whenOpen s k = if s.linkOpen = true then k s else ends .badState 0 s := rfl

theorem execTxpclr_eq (a : BitVec 8) (b : BitVec 16) (s : State) : execTxpclr a b s =
    .next (if a = 0 ∧ b = 0 then ends .ok 0 { s with txpay := [] } else badArg s) := by
  rw [execTxpclr, Operands.empty_eq, withOperands_ite]
  rfl

/-- A full buffer refuses a byte as an ill-formed operand does. -/
theorem execTxppush_eq (a : BitVec 8) (b : BitVec 16) (s : State) : execTxppush a b s =
    .next (if b = 0 ∧ s.txpay.length < s.par.payCap then
      ends .ok (s.txpay.length + 1) { s with txpay := s.txpay ++ [a] } else badArg s) := by
  rw [execTxppush, Operands.byte_eq, withOperands_ite, ite_and]
  congr 2
  by_cases hroom : s.txpay.length < s.par.payCap
  · rw [if_pos hroom, if_neg (Nat.not_le.2 hroom)]
    simp only [List.length_append, List.length_singleton]
    rfl
  · rw [if_neg hroom, if_pos (Nat.not_lt.1 hroom)]
    rfl

theorem execWrframe_eq (a : BitVec 8) (b : BitVec 16) (s : State) : execWrframe a b s =
    .next (if b.toNat ≤ 3 then
      (if s.linkOpen = true then
        issues .txWait { s with
          txbuf := txBytes s.par.crcSeed s.cfg.lead.toNat s.cfg.trail.toNat a
            (BitVec.ofNat 2 b.toNat) s.cfg.crcMode s.txpay
          txvalid := true
          txpos := 0 }
        else ends .badState 0 s)
      else badArg s) := by
  simp only [execWrframe, Operands.frame_eq, withOperands_ite, whenOpen_eq]
  rfl

theorem execResend_eq (a : BitVec 8) (b : BitVec 16) (s : State) : execResend a b s =
    .next (if a = 0 ∧ b = 0 then
      (if s.linkOpen = true then
        (if s.txvalid = true then issues .txWait { s with txpos := 0 } else ends .noFrame 0 s)
        else ends .badState 0 s)
      else badArg s) := by
  simp only [execResend, Operands.empty_eq, withOperands_ite, whenOpen_eq]
  rfl

/-! ### The transmit phases (R197, R198) -/

section Transmit

variable {s : State} {rest : List Event}

/-- TXWAIT's step once the turnaround is over. -/
theorem step_txWait (hb : s.busy = true) (hp : s.ph = .txWait)
    (hover : s.rxts.toNat + s.cfg.postRxDelay.toNat ≤ s.now.toNat)
    (ha : s.agenda = .seq :: rest) :
    step s = .next { s with agenda := rest, ph := .txShift } := by
  apply step_seq_moved ha
  simp [seqStep, hb, hp, seqTxWait, State.turnaroundOver, hover]

/-- TXSHIFT's step with bytes left after this one. -/
theorem step_txShift (hb : s.busy = true) (hp : s.ph = .txShift)
    (hlt : s.txpos + 1 < s.txbuf.length) (ha : s.agenda = .seq :: rest) :
    step s = .next { s with
      agenda := rest, txline := s.txline ++ [s.txbuf[s.txpos]], txpos := s.txpos + 1 } := by
  apply step_seq_moved ha
  simp [seqStep, hb, hp, seqTxShift, State.emit, hlt.ne, Nat.lt_of_succ_lt hlt]

/-- TXSHIFT's step with the last byte. -/
theorem step_txShift_last (hb : s.busy = true) (hp : s.ph = .txShift)
    (hlast : s.txpos + 1 = s.txbuf.length) (ha : s.agenda = .seq :: rest) :
    step s = .next (ends .ok s.txbuf.length { s with
      agenda := rest, txline := s.txline ++ [s.txbuf[s.txpos]], txpos := s.txbuf.length }) := by
  have hlt : s.txpos < s.txbuf.length := by omega
  apply step_seq_moved ha
  simp [seqStep, hb, hp, seqTxShift, State.emit, hlast, hlt, State.done, State.raise, ends]

/-- TXSHIFT emits the n + 1 bytes that are left, one a turn, and completes: by induction on n, from the
last byte back. -/
theorem runTurns_txShift {n : Nat} (hb : s.busy = true) (hp : s.ph = .txShift)
    (hn : s.txpos + (n + 1) = s.txbuf.length)
    (ha : s.agenda = List.replicate (n + 1) .seq ++ rest) :
    runTurns (n + 1) s = .next (ends .ok s.txbuf.length { s with
      agenda := rest, txline := s.txline ++ s.txbuf.drop s.txpos, txpos := s.txbuf.length }) := by
  induction n generalizing s with
  | zero =>
    have hdrop : s.txbuf.drop s.txpos = [s.txbuf[s.txpos]] := by
      rw [List.drop_eq_getElem_cons (by omega), List.drop_eq_nil_of_le hn.ge]
    rw [hdrop]
    exact runTurns_succ (step_txShift_last hb hp hn ha)
  | succ n ih =>
    have hlt : s.txpos + 1 < s.txbuf.length := by omega
    have hnext : s.txpos + 1 + (n + 1) = s.txbuf.length := by omega
    have hline : s.txline ++ s.txbuf.drop s.txpos =
        s.txline ++ [s.txbuf[s.txpos]] ++ s.txbuf.drop (s.txpos + 1) := by
      rw [List.drop_eq_getElem_cons (Nat.lt_of_succ_lt hlt), List.append_cons]
    rw [runTurns_succ (step_txShift hb hp hlt (replicate_seq_succ (n + 1) rest ▸ ha)), hline]
    apply ih
    exacts [hb, hp, hnext, rfl]

/-- The same with the bytes left counted from the end of TXBUF. -/
theorem runTurns_txShift_left (hb : s.busy = true) (hp : s.ph = .txShift)
    (hlt : s.txpos < s.txbuf.length)
    (ha : s.agenda = List.replicate (s.txbuf.length - s.txpos) .seq ++ rest) :
    runTurns (s.txbuf.length - s.txpos) s = .next (ends .ok s.txbuf.length { s with
      agenda := rest, txline := s.txline ++ s.txbuf.drop s.txpos, txpos := s.txbuf.length }) := by
  obtain ⟨n, hn⟩ : ∃ n, s.txbuf.length - s.txpos = n + 1 := ⟨_, (Nat.sub_one_add_one (by omega)).symm⟩
  rw [hn] at ha ⊢
  exact runTurns_txShift hb hp (by omega) ha

end Transmit

/-! ### The statements -/

/-- Settles O35: the header of R193 byte by byte. -/
theorem transmittedBytesLayout : Obligations.TransmittedBytesLayout := by
  intro seed lead trail a8 q m p total
  refine ⟨frameHeader a8 q m p.length, ?_, rfl, txBytes_length ..⟩
  simp only [frameHeader_eq, List.map_cons, List.map_nil, clearTopBit_toNat, frameLength_lowByte,
    frameLength_highByte, frameControl_toNat]
  rfl

/-- Settles O53. -/
theorem transmissionEmitsTheFrame : Obligations.TransmissionEmitsTheFrame := by
  refine ⟨fun s rest => step_txWait, fun s rest => runTurns_txShift_left, ?_⟩
  intro s rest hb hp hlt hover ha
  rw [runTurns_succ (step_txWait hb hp hover (replicate_seq_succ _ rest ▸ ha))]
  exact runTurns_txShift_left (s := { s with
    agenda := List.replicate (s.txbuf.length - s.txpos) .seq ++ rest, ph := .txShift }) hb rfl hlt rfl

/-- Settles O14: at most PAY_CAP bytes staged, so there is room unless the length is PAY_CAP. -/
theorem stagingBufferClearsAndAppends : Obligations.StagingBufferClearsAndAppends := by
  intro s a b hcap
  refine ⟨hasWord_of_encode 0x20#8 rfl, hasWord_of_encode 0x21#8 rfl, execTxpclr_eq a b s, ?_⟩
  refine (execTxppush_eq a b s).trans ?_
  simp only [Nat.lt_iff_le_and_ne, hcap, true_and]

/-- Settles O15. -/
theorem wrframeEncodesAndHolds : Obligations.WrframeEncodesAndHolds :=
  fun s a b => ⟨hasWord_of_encode 0x22#8 rfl, execWrframe_eq a b s⟩

/-- Settles O16. -/
theorem resendKeepsRetainedBytes : Obligations.ResendKeepsRetainedBytes :=
  fun s a b => ⟨hasWord_of_encode 0x23#8 rfl, execResend_eq a b s⟩

end Sys2Proof.Machine
end

section
/-! The frame round trip (41_frame_encode.md R195): SEQ's turns on the encoder's bytes, phase by phase,
from the scan to the validated frame. -/

namespace Sys2Proof.Machine

section Receive

variable {s : State} {rest : List Event} {more : List Byte}

/-! ### Collecting bytes (42_frame_decode.md R231, R232, R235) -/

/-- The number of bytes in RXBUF that completes what the phase collects: a header, or a frame. -/
def State.collectLength (s : State) : Nat :=
  match s.ph with
  | .rxHdr => 5
  | .rxBody => s.rxflen.toNat
  | .idle | .txWait | .txShift | .rxScan | .fbBody | .idleWt => 0

/-- A byte that does not complete what the phase collects is stored. -/
theorem step_collect {b : Byte} (hb : s.busy = true) (hlt : s.rxbuf.length + 1 < s.collectLength)
    (hf : s.rxfifo = b :: more) (ha : s.agenda = .seq :: rest) :
    step s = .next { s with agenda := rest, rxfifo := more, rxbuf := s.rxbuf ++ [b] } := by
  apply step_seq_moved ha
  cases hp : s.ph with
  | rxHdr =>
    have hne : s.rxbuf.length + 1 ≠ 5 := by simpa only [State.collectLength, hp] using hlt.ne
    simp [seqStep, hb, seqReceive, hf, seqRxHdr, hne]
  | rxBody =>
    have hne : s.rxbuf.length + 1 ≠ s.rxflen.toNat := by
      simpa only [State.collectLength, hp] using hlt.ne
    simp [seqStep, hb, seqReceive, hf, seqRxBody, hne]
  | _ => simp [State.collectLength, hp] at hlt

/-- So are several, one a turn. -/
theorem runTurns_collect {bytes : List Byte} (hb : s.busy = true)
    (hlt : s.rxbuf.length + bytes.length < s.collectLength) (hf : s.rxfifo = bytes ++ more)
    (ha : s.agenda = List.replicate bytes.length .seq ++ rest) :
    runTurns bytes.length s =
      .next { s with agenda := rest, rxfifo := more, rxbuf := s.rxbuf ++ bytes } := by
  induction bytes generalizing s with
  | nil =>
    simp only [List.length_nil, List.replicate_zero, List.nil_append] at ha hf
    simp [← ha, ← hf]
  | cons b bytes ih =>
    rw [List.length_cons] at hlt
    rw [List.length_cons, List.append_cons,
      runTurns_succ (step_collect hb (by omega) hf (replicate_seq_succ _ rest ▸ ha))]
    have hlt' : (s.rxbuf ++ [b]).length + bytes.length < s.collectLength := by
      rw [List.length_append, List.length_singleton]
      omega
    exact ih (s := { s with
      agenda := List.replicate bytes.length .seq ++ rest
      rxfifo := bytes ++ more
      rxbuf := s.rxbuf ++ [b] }) hb hlt' rfl rfl

/-- The introducer ends the scan and starts the header. -/
theorem step_introducer (hb : s.busy = true) (hp : s.ph = .rxScan)
    (hf : s.rxfifo = Config.introducer :: more) (ha : s.agenda = .seq :: rest) :
    step s = .next { s with
      agenda := rest, rxfifo := more, rxbuf := [Config.introducer], ph := .rxHdr } := by
  apply step_seq_moved ha
  simp [seqStep, hb, hp, seqReceive, hf, seqRxScan]

/-! ### The header (42_frame_decode.md R232, R233) -/

/-- Five bytes that begin with the introducer decode, and executing them evaluates the header. -/
theorem exec_fiveBytes {address ctrl : Byte} {len : BitVec 16} {header : List Byte}
    (hheader : header =
      [Config.introducer, address, len.extractLsb' 0 8, len.extractLsb' 8 8, ctrl]) (s : State) :
    ∃ i, decodeHeader header = .ok i ∧
      exec i s = .next (evaluateHeader (ctrl.getLsbD 2) address len ctrl header s) := by
  have hfields := headerBytes_of_fields address (len.extractLsb' 0 8) (len.extractLsb' 8 8) ctrl
    (m := BitVec.ofBool (ctrl.getLsbD 2)) (by simp)
  have hdecode := hfields ▸ decodeHeader_headerBytes ..
  obtain ⟨t, ht, -⟩ := exec_next _ s
  obtain ⟨m, address', len', ctrl', rfl, hbytes, rfl⟩ := exec_header hdecode ht
  simp only [List.cons.injEq, and_true] at hbytes
  obtain ⟨-, rfl, hlo, hhi, rfl⟩ := hbytes
  have hlen : len' = len := by rw [← header_length len', ← hlo, ← hhi, header_length]
  subst hheader hlen
  exact ⟨_, hdecode, ht⟩

/-- The byte that completes a header evaluates it. -/
theorem step_header {address ctrl : Byte} {len : BitVec 16} (hb : s.busy = true)
    (hp : s.ph = .rxHdr)
    (hbuf : s.rxbuf = [Config.introducer, address, len.extractLsb' 0 8, len.extractLsb' 8 8])
    (hf : s.rxfifo = ctrl :: more) (ha : s.agenda = .seq :: rest) :
    step s = .next (evaluateHeader (ctrl.getLsbD 2) address len ctrl (s.rxbuf ++ [ctrl])
      { s with agenda := rest, rxfifo := more, rxbuf := s.rxbuf ++ [ctrl] }) := by
  have hseq : seqStep { s with agenda := rest } =
      .header { s with agenda := rest, rxfifo := more, rxbuf := s.rxbuf ++ [ctrl] } := by
    simp [seqStep, hb, hp, seqReceive, hf, seqRxHdr, hbuf]
  obtain ⟨i, hdecode, hexec⟩ := exec_fiveBytes (congrArg (· ++ [ctrl]) hbuf)
    { s with agenda := rest, rxfifo := more, rxbuf := s.rxbuf ++ [ctrl] }
  rw [step_seq ha, seqTurn_header hseq hdecode, hexec]

/-- A header for this station whose length RX_CAP can hold, and that can hold a checksum, opens a
body. -/
theorem evaluateHeader_body {m : Bool} {address ctrl : Byte} {len : BitVec 16} (header : List Byte)
    (haddr : s.addressed address = true) (hcap : len.toNat ≤ s.par.rxCap)
    (hleast : 5 + ckSize m ≤ len.toNat) :
    evaluateHeader m address len ctrl header s =
      { s with rxaddr := address, rxctrl := ctrl, rxflen := len, ph := .rxBody } := by
  simp only [evaluateHeader, if_pos haddr, if_neg (Nat.not_lt.2 hcap), if_neg (Nat.not_lt.2 hleast)]

/-- The byte that completes such a header. -/
theorem step_header_body {address ctrl : Byte} {len : BitVec 16}
    (haddr : s.addressed address = true) (hcap : len.toNat ≤ s.par.rxCap)
    (hleast : 5 + ckSize (ctrl.getLsbD 2) ≤ len.toNat) (hb : s.busy = true) (hp : s.ph = .rxHdr)
    (hbuf : s.rxbuf = [Config.introducer, address, len.extractLsb' 0 8, len.extractLsb' 8 8])
    (hf : s.rxfifo = ctrl :: more) (ha : s.agenda = .seq :: rest) :
    step s = .next { s with
      agenda := rest
      rxfifo := more
      rxbuf := s.rxbuf ++ [ctrl]
      rxaddr := address
      rxctrl := ctrl
      rxflen := len
      ph := .rxBody } := by
  rw [step_header hb hp hbuf hf ha, evaluateHeader_body]
  exacts [haddr, hcap, hleast]

/-- From the scan, the five bytes of such a header are collected and open its body. -/
theorem runTurns_header {address ctrl : Byte} {len : BitVec 16} {header : List Byte}
    (hheader : header =
      [Config.introducer, address, len.extractLsb' 0 8, len.extractLsb' 8 8, ctrl])
    (haddr : s.addressed address = true) (hcap : len.toNat ≤ s.par.rxCap)
    (hleast : 5 + ckSize (ctrl.getLsbD 2) ≤ len.toNat) (hb : s.busy = true) (hp : s.ph = .rxScan)
    (hf : s.rxfifo = header ++ more) (ha : s.agenda = List.replicate 5 .seq ++ rest) :
    runTurns 5 s = .next { s with
      agenda := rest
      rxfifo := more
      rxbuf := header
      rxaddr := address
      rxctrl := ctrl
      rxflen := len
      ph := .rxBody } := by
  subst hheader
  have hcollect := runTurns_collect
    (bytes := [address, len.extractLsb' 0 8, len.extractLsb' 8 8]) (more := ctrl :: more)
    (rest := .seq :: rest) (s := { s with
      agenda := List.replicate 4 .seq ++ rest
      rxfifo := [address, len.extractLsb' 0 8, len.extractLsb' 8 8] ++ ctrl :: more
      rxbuf := [Config.introducer]
      ph := .rxHdr }) hb (show 4 < 5 by decide) rfl rfl
  have hlast := step_header_body (rest := rest) (more := more) (s := { s with
      agenda := .seq :: rest
      rxfifo := ctrl :: more
      rxbuf := [Config.introducer, address, len.extractLsb' 0 8, len.extractLsb' 8 8]
      ph := .rxHdr }) haddr hcap hleast hb rfl rfl rfl rfl
  calc runTurns 5 s
      = runTurns (3 + 1) _ := runTurns_succ (step_introducer hb hp hf ha)
    _ = runTurns 1 _ := runTurns_add hcollect
    _ = .next _ := runTurns_succ hlast

/-! ### The body (42_frame_decode.md R235) -/

/-- The byte that completes a frame gives the verdict. -/
theorem step_frameDone {b : Byte} (hb : s.busy = true) (hp : s.ph = .rxBody)
    (hlast : s.rxbuf.length + 1 = s.rxflen.toNat) (hf : s.rxfifo = b :: more)
    (ha : s.agenda = .seq :: rest) :
    step s = .next (State.frameDone
      { s with agenda := rest, rxfifo := more, rxbuf := s.rxbuf ++ [b] }) := by
  apply step_seq_moved ha
  simp [seqStep, hb, hp, seqReceive, hf, seqRxBody, hlast]

/-- The rest of a frame is collected and gives the verdict: all bytes but the last are stored. -/
theorem runTurns_body {bytes : List Byte} (hb : s.busy = true) (hp : s.ph = .rxBody)
    (hne : bytes ≠ []) (hlen : s.rxbuf.length + bytes.length = s.rxflen.toNat)
    (hf : s.rxfifo = bytes ++ more) (ha : s.agenda = List.replicate bytes.length .seq ++ rest) :
    runTurns bytes.length s = .next (State.frameDone
      { s with agenda := rest, rxfifo := more, rxbuf := s.rxbuf ++ bytes }) := by
  obtain ⟨init, b, rfl⟩ := (List.eq_nil_or_concat' bytes).resolve_left hne
  rw [List.length_append, List.length_singleton] at hlen ha ⊢
  have hcollect := runTurns_collect (more := b :: more) (rest := .seq :: rest) hb
    (show s.rxbuf.length + init.length < s.collectLength by
      rw [State.collectLength, hp]; dsimp only; omega)
    (by rw [hf, List.append_assoc]; rfl)
    (by rw [ha, List.replicate_succ', List.append_assoc]; rfl)
  rw [runTurns_add hcollect, ← List.append_assoc]
  refine runTurns_succ (step_frameDone hb hp ?_ rfl rfl)
  rw [List.length_append, Nat.add_assoc, hlen]

/-- A frame followed by its own checksum validates. -/
theorem frameDone_valid {covered : List Byte} {m : Bool} (hm : s.rxctrl.getLsbD 2 = m)
    (hbuf : s.rxbuf = covered ++ ckBytes m (ckRange s.par.crcSeed m covered))
    (hlen : s.rxflen.toNat = covered.length + ckSize m) :
    s.frameDone = State.rxDone .ok ((BitVec.ofNat 16 (covered.length - 5)).setWidth 64)
      { s with rxlen := BitVec.ofNat 16 (covered.length - 5) } := by
  have hcovered : s.rxflen.toNat - ckSize m = covered.length := by omega
  have hpayload : s.rxflen.toNat - 5 - ckSize m = covered.length - 5 := by omega
  have hverify : ckVerify s.par.crcSeed m (s.rxbuf.take covered.length)
      (s.rxbuf.drop covered.length) = true := by
    rw [hbuf, List.take_left, List.drop_left]
    exact beq_self_eq_true _
  simp only [State.frameDone, hm, hcovered, hpayload, if_pos hverify]

/-! ### A whole frame -/

/-- What follows the header of a frame: the payload and the checksum. -/
def frameBody (seed : BitVec 16) (a8 : Byte) (q : BitVec 2) (m : Bool) (p : List Byte) : List Byte :=
  p ++ ckBytes m (ckRange seed m (frameHeader a8 q m p.length ++ p))

theorem frameBytes_eq (seed : BitVec 16) (a8 : Byte) (q : BitVec 2) (m : Bool) (p : List Byte) :
    frameBytes seed a8 q m p = frameHeader a8 q m p.length ++ frameBody seed a8 q m p :=
  List.append_assoc ..

@[simp] theorem frameBody_length (seed : BitVec 16) (a8 : Byte) (q : BitVec 2) (m : Bool)
    (p : List Byte) : (frameBody seed a8 q m p).length = p.length + ckSize m := by
  rw [frameBody, List.length_append, ckBytes_length]

theorem frameControl_mode (q : BitVec 2) (m : Bool) : (frameControl q m).getLsbD 2 = m := by
  revert q m
  decide

theorem frameControl_seq (q : BitVec 2) (m : Bool) : (frameControl q m).extractLsb' 0 2 = q := by
  revert q m
  decide

/-- The state after a validated frame. -/
def State.received (a8 : Byte) (q : BitVec 2) (m : Bool) (p : List Byte) (s : State) : State :=
  State.rxDone .ok ((BitVec.ofNat 16 p.length).setWidth 64) { s with
    rxbuf := frameBytes s.par.crcSeed a8 q m p
    rxlen := BitVec.ofNat 16 p.length
    rxaddr := a8 &&& 0x7F#8
    rxctrl := frameControl q m
    rxflen := frameLength m p.length }

/-- A frame for this station that fits RX_CAP is received whole: five turns for its header, one for each
byte after it. -/
theorem runTurns_frame {a8 : Byte} {q : BitVec 2} {m : Bool} {p : List Byte} (hb : s.busy = true)
    (hp : s.ph = .rxScan) (haddr : s.addressed (a8 &&& 0x7F#8) = true)
    (hcap : 5 + p.length + ckSize m ≤ s.par.rxCap) (hrx : s.par.rxCap ≤ 65535)
    (hf : s.rxfifo = frameBytes s.par.crcSeed a8 q m p ++ more)
    (ha : s.agenda = List.replicate (5 + (p.length + ckSize m)) .seq ++ rest) :
    runTurns (5 + (p.length + ckSize m)) s =
      .next (State.received a8 q m p { s with agenda := rest, rxfifo := more }) := by
  have hck := ckSize_pos m
  have hflen : (frameLength m p.length).toNat = 5 + p.length + ckSize m :=
    Nat.mod_eq_of_lt (by omega)
  rw [frameBytes_eq, List.append_assoc] at hf
  rw [List.replicate_add, List.append_assoc] at ha
  have hheader := runTurns_header (frameHeader_eq a8 q m p.length) haddr (hflen.trans_le hcap)
    (by rw [frameControl_mode]; omega) hb hp hf ha
  have hbody := runTurns_body (bytes := frameBody s.par.crcSeed a8 q m p) (s := { s with
      agenda := List.replicate (p.length + ckSize m) .seq ++ rest
      rxfifo := frameBody s.par.crcSeed a8 q m p ++ more
      rxbuf := frameHeader a8 q m p.length
      rxaddr := a8 &&& 0x7F#8
      rxctrl := frameControl q m
      rxflen := frameLength m p.length
      ph := .rxBody }) hb rfl
    (List.ne_nil_of_length_pos (by rw [frameBody_length]; omega))
    (by rw [frameBody_length, frameHeader_length, hflen]; omega) rfl
    (by rw [frameBody_length])
  rw [frameBody_length, ← frameBytes_eq] at hbody
  rw [runTurns_add hheader, hbody]
  have hcovered : (frameHeader a8 q m p.length ++ p).length = 5 + p.length := by
    rw [List.length_append, frameHeader_length]
  rw [frameDone_valid (covered := frameHeader a8 q m p.length ++ p) (frameControl_mode q m) rfl
    (by rw [hcovered, hflen]), hcovered, Nat.add_sub_cancel_left]
  rfl

end Receive

/-! ### The statement -/

/-- The introducer is neither noise nor a pad, so the scan drops both. -/
theorem introducer_notMem_pads {noise : List Byte} (hn : 0x53#8 ∉ noise) (lead : Nat) :
    Config.introducer ∉ noise ++ List.replicate lead Config.pad := by
  rw [List.mem_append, not_or]
  exact ⟨hn, fun h => absurd (List.eq_of_mem_replicate h) (by decide)⟩

/-- An address up to 127 has no top bit to clear. -/
theorem clearTopBit_of_le {a8 : Byte} (h : a8.toNat ≤ 127) : a8 &&& 0x7F#8 = a8 := by
  apply BitVec.eq_of_toNat_eq
  rw [clearTopBit_toNat]
  omega

theorem addressed_of_station {a8 : Byte} {s : State} (ha8 : a8.toNat ≤ 127)
    (h : s.cfg.listenAll = true ∨ s.cfg.station.toNat = a8.toNat) : s.addressed a8 = true := by
  rw [State.addressed, Bool.or_eq_true]
  refine h.imp id fun hstation => beq_iff_eq.2 (BitVec.eq_of_toNat_eq ?_)
  rw [BitVec.extractLsb'_toNat, Nat.shiftRight_zero, hstation]
  omega

/-- The payload stands in the frame after the five header bytes. -/
theorem frameBytes_getElem? (seed : BitVec 16) (a8 : Byte) (q : BitVec 2) (m : Bool) {p : List Byte}
    {i : Nat} (hi : i < p.length) : (frameBytes seed a8 q m p)[5 + i]? = p[i]? := by
  have hfive : (frameHeader a8 q m p.length).length ≤ 5 + i := Nat.le_add_right 5 i
  rw [frameBytes_eq, List.getElem?_append_right hfive, frameHeader_length, Nat.add_sub_cancel_left,
    frameBody, List.getElem?_append_left hi]

/-- Settles O54: the scan drops noise and leading pads, then the frame is received whole. -/
theorem frameRoundTrip : Obligations.FrameRoundTrip := by
  intro s rest noise lead trail a8 q m p turns hb hp hn ha8 hst hcap hrx hf ha
  have hturns : turns =
      (noise ++ List.replicate lead Config.pad).length + (5 + (p.length + ckSize m)) := by
    rw [List.length_append, List.length_replicate, ← Nat.add_assoc 5]
    rfl
  have hclear := clearTopBit_of_le ha8
  have hlen64 : (BitVec.ofNat 16 p.length).setWidth 64 = BitVec.ofNat 64 p.length :=
    BitVec.eq_of_toNat_eq (by simp only [BitVec.toNat_setWidth, BitVec.toNat_ofNat]; omega)
  rw [hturns, List.replicate_add, List.append_assoc] at ha
  simp only [txBytes, List.append_assoc] at hf
  rw [← List.append_assoc] at hf
  refine ⟨State.received a8 q m p
    { s with agenda := rest, rxfifo := List.replicate trail Config.pad }, ?_, rfl, hlen64, rfl, rfl,
    rfl, rfl, fun i hi => frameBytes_getElem? s.par.crcSeed a8 q m hi, hclear, frameControl_seq q m,
    frameControl_mode q m, rfl, rfl, rfl, rfl⟩
  rw [hturns, runTurns_add (runTurns_scan hb hp (introducer_notMem_pads hn lead) hf ha)]
  exact runTurns_frame hb hp (hclear.symm ▸ addressed_of_station ha8 hst) hcap hrx rfl rfl

end Sys2Proof.Machine
end

section
/-! The frame decoder (42_frame_decode.md): the commands of RDFRAME, RXRD, IDLEWAIT and RXFLUSH, the
evaluation of a header, and SEQ's turns in IDLEWT, RXHDR and RXBODY. -/

namespace Sys2Proof.Machine

open Sys2Proof.Certificates

/-! ### The commands (R230, R243, R245, R248) -/

theorem execRdframe_eq (a : BitVec 8) (b : BitVec 16) (s : State) : execRdframe a b s =
    .next (if a = 0 ∧ b = 0 then
      (if s.linkOpen = true then
        issues .rxScan { s with
          dl := s.nowPlus s.cfg.rdTimeout.toNat
          rxvalid := false
          rxbuf := []
          rxlen := 0
          rxaddr := 0
          rxctrl := 0
          rxflen := 0 }
        else ends .badState 0 s)
      else badArg s) := by
  simp only [execRdframe, Operands.empty_eq, withOperands_ite, whenOpen_eq]
  rfl

theorem execIdlewait_eq (a : BitVec 8) (b : BitVec 16) (s : State) : execIdlewait a b s =
    .next (if a = 0 ∧ b = 0 then
      (if s.linkOpen = true then issues .idleWt { s with t0 := s.now, disc := 0 }
        else ends .badState 0 s)
      else badArg s) := by
  simp only [execIdlewait, Operands.empty_eq, withOperands_ite, whenOpen_eq]
  rfl

/-- Recording the receive time touches RXTS only. -/
theorem stampIf_eq (discarded : Bool) (s : State) :
    s.stampIf discarded = { s with rxts := if discarded then s.now else s.rxts } := by
  cases discarded <;> rfl

theorem execRxflush_eq (a : BitVec 8) (b : BitVec 16) (s : State) : execRxflush a b s =
    .next (if a = 0 ∧ b = 0 then
      (if s.linkOpen = true then
        ends .ok s.rxfifo.length
          { s with rxfifo := [], rxts := if s.rxfifo.length > 0 then s.now else s.rxts }
        else ends .badState 0 s)
      else badArg s) := by
  simp only [execRxflush, Operands.empty_eq, withOperands_ite, whenOpen_eq, stampIf_eq]
  cases s.rxfifo <;> rfl

/-- An index within the payload of a validated frame lies within RXBUF (10_state.md R67 (f)). -/
theorem State.Inv.payload_inBounds {s : State} (h : s.Inv) (hv : s.rxvalid = true) {i : Nat}
    (hi : i < s.rxlen.toNat) : 5 + i < s.rxbuf.length := by
  obtain ⟨hlen, -, hflen, -⟩ := h.validated hv
  omega

/-- RXRD with the operand and the frame tests written out. -/
theorem execRxrd_eq (a : BitVec 8) (b : BitVec 16) (s : State) : execRxrd a b s =
    .next (if a = 0 ∧ s.rxvalid = true ∧ b.toNat < s.rxlen.toNat then
      withOperands (s.rxbuf[5 + b.toNat]?) s fun byte => ends .ok byte.toNat s
      else badArg s) := by
  have htests : (s.rxvalid = false ∨ s.rxlen ≤ b) ↔
      ¬(s.rxvalid = true ∧ b.toNat < s.rxlen.toNat) := by
    rw [not_and_or, Bool.not_eq_true, Nat.not_lt, BitVec.le_def]
  simp only [execRxrd, Operands.half_eq, withOperands_ite, done_setWidth, htests, ite_not, ite_and]
  rfl

/-! ### The evaluation of a header (R233, R236) -/

theorem addressed_iff (address : Byte) (s : State) : s.addressed address = true ↔
    s.cfg.listenAll = true ∨ address.extractLsb' 0 7 = s.cfg.station := by
  rw [State.addressed, Bool.or_eq_true, beq_iff_eq]

/-- The evaluation of a header is the chain of tests of the rules. -/
theorem evaluateHeader_eq (m : Bool) (address : Byte) (len : BitVec 16) (ctrl : Byte)
    (header : List Byte) (s : State) :
    evaluateHeader m address len ctrl header s = headerOutcome m address len ctrl header s := by
  unfold evaluateHeader headerOutcome
  by_cases haddr : s.addressed address = true
  · rw [if_pos haddr, if_pos ((addressed_iff address s).1 haddr)]
    rfl
  · rw [if_neg haddr, if_neg (mt (addressed_iff address s).2 haddr), enterFlyBy, countFlyBy_fields,
      State.countFlyBy_cnt]
    rfl

/-! ### SEQ's turns -/

section Turns

variable {s : State} {rest : List Event} {more : List Byte}

/-- The byte that completes a header runs the instruction the header decodes to (R232). -/
theorem step_completesHeader {b : Byte} {i : Instr} (hb : s.busy = true) (hp : s.ph = .rxHdr)
    (hfour : s.rxbuf.length = 4) (hd : decodeHeader (s.rxbuf ++ [b]) = .ok i)
    (hf : s.rxfifo = b :: more) (ha : s.agenda = .seq :: rest) :
    step s = exec i { s with agenda := rest, rxfifo := more, rxbuf := s.rxbuf ++ [b] } := by
  have hseq : seqStep { s with agenda := rest } =
      .header { s with agenda := rest, rxfifo := more, rxbuf := s.rxbuf ++ [b] } := by
    simp [seqStep, hb, hp, seqReceive, hf, seqRxHdr, hfour]
  rw [step_seq ha, seqTurn_header hseq hd]

/-- An RDFRAME that ends with the value of a register. -/
theorem rxDone_setWidth {w : Nat} (v : BitVec w) (s : State) :
    s.rxDone .ok (v.setWidth 64) = rxEnds .ok v.toNat s :=
  done_setWidth v { s with rxvalid := true, rxts := s.now }

/-- The verdict on a whole frame of n payload bytes (R235, R241). -/
theorem frameDone_eq {n : Nat} (hn : s.rxflen.toNat = 5 + n + s.rxCk) : s.frameDone =
    if s.rxbuf.drop (5 + n) = ckBytes (s.rxctrl.getLsbD 2)
        (ckRange s.par.crcSeed (s.rxctrl.getLsbD 2) (s.rxbuf.take (5 + n))) then
      rxEnds .ok n { s with rxlen := BitVec.ofNat 16 n }
    else rxEnds .crcErr 0 { s with cnt := { s.cnt with crcErr := s.cnt.crcErr + 1 } } := by
  have hck : ckSize (s.rxctrl.getLsbD 2) = s.rxCk := rfl
  have hcovered : s.rxflen.toNat - s.rxCk = 5 + n := by omega
  have hpayload : s.rxflen.toNat - 5 - s.rxCk = n := by omega
  have hfits : (BitVec.ofNat 16 n).toNat = n := Nat.mod_eq_of_lt (by omega)
  simp only [State.frameDone, hck, hcovered, hpayload, rxDone_setWidth, hfits, ckVerify,
    beq_iff_eq, eq_comm (b := s.rxbuf.drop (5 + n))]
  rfl

/-- IDLEWT's step with a byte waiting discards it and restarts the quiet period. -/
theorem step_discard {b : Byte} (hb : s.busy = true) (hp : s.ph = .idleWt)
    (hf : s.rxfifo = b :: more) (ha : s.agenda = .seq :: rest) :
    step s = .next { s with agenda := rest, rxfifo := more, disc := s.disc + 1, t0 := s.now } := by
  apply step_seq_moved ha
  simp [seqStep, hb, hp, seqIdleWt, hf]

/-- So it discards several, one a turn. -/
theorem runTurns_discard {b : Byte} (hb : s.busy = true) (hp : s.ph = .idleWt)
    (hf : s.rxfifo = b :: more)
    (ha : s.agenda = List.replicate (more.length + 1) .seq ++ rest) :
    runTurns (more.length + 1) s = .next { s with
      agenda := rest
      rxfifo := []
      disc := s.disc + BitVec.ofNat 64 (more.length + 1)
      t0 := s.now } := by
  induction more generalizing s b with
  | nil => exact runTurns_succ (step_discard hb hp hf ha)
  | cons c more ih =>
    have hdisc : s.disc + BitVec.ofNat 64 (more.length + 1 + 1) =
        s.disc + 1 + BitVec.ofNat 64 (more.length + 1) := by
      rw [BitVec.add_assoc, Nat.add_comm _ 1, BitVec.ofNat_add]
      rfl
    rw [List.length_cons, hdisc,
      runTurns_succ (step_discard hb hp hf (replicate_seq_succ (more.length + 1) rest ▸ ha))]
    apply ih
    exacts [hb, hp, rfl, rfl]

/-- IDLEWT's step with RXFIFO empty completes once the line has been quiet for IDLETHRESH. -/
theorem step_quiet (hb : s.busy = true) (hp : s.ph = .idleWt) (hf : s.rxfifo = [])
    (ha : s.agenda = .seq :: rest) :
    step s = .next (if s.cfg.idleThresh.toNat ≤ s.now.toNat - s.t0.toNat then
      ends .ok s.disc.toNat { s with agenda := rest, rxts := if s.disc = 0 then s.rxts else s.now }
      else { s with agenda := rest }) := by
  by_cases hquiet : s.cfg.idleThresh.toNat ≤ s.now.toNat - s.t0.toNat
  · have hseq : seqStep { s with agenda := rest } =
        .moved (State.done s.disc (State.stampIf (s.disc != 0) { s with agenda := rest })) := by
      simp [seqStep, hb, hp, seqIdleWt, hf, hquiet]
    have hstamp : (if (s.disc != 0) = true then s.now else s.rxts) =
        if s.disc = 0 then s.rxts else s.now := by
      simp only [bne_iff_ne, ne_eq, ite_not]
    rw [step_seq_moved ha hseq, if_pos hquiet, stampIf_eq, ← hstamp, ends,
      BitVec.ofNat_toNat, BitVec.setWidth_eq]
    rfl
  · rw [step_seq ha, if_neg hquiet]
    simp [seqTurn, seqStep, hb, hp, seqIdleWt, hf, hquiet]

end Turns

/-! ### The statements -/

/-- Settles O18: by the invariant the byte of a payload index is there. -/
theorem rxrdReadsThePayload : Obligations.RxrdReadsThePayload := by
  intro s a b hi
  refine ⟨hasWord_of_encode 0x31#8 rfl, fun hread => ?_, fun hrefused => ?_⟩
  · have hbyte := List.getElem?_eq_getElem (hi.payload_inBounds hread.2.1 hread.2.2)
    refine ⟨_, hbyte, (execRxrd_eq a b s).trans ?_⟩
    rw [if_pos hread, hbyte, withOperands_some]
  · exact (execRxrd_eq a b s).trans (by rw [if_neg hrefused])

/-- Settles O55: the byte is not the last and is stored, or it is the last and gives the verdict. -/
theorem bodyByteCollectsAndValidates : Obligations.BodyByteCollectsAndValidates := by
  intro s b more rest hi ha hp hf
  have hb : s.busy = true := hi.busy_iff.2 (by rw [hp]; nofun)
  obtain ⟨-, hlt, -, hmin, -⟩ := hi.body hp
  by_cases hmore : (s.rxbuf ++ [b]).length < s.rxflen.toNat
  · have hcollect : s.rxbuf.length + 1 < s.collectLength := by
      simpa [State.collectLength, hp] using hmore
    rw [step_collect hb hcollect hf ha]
    simp only [if_pos hmore]
  · have hlast : s.rxbuf.length + 1 = s.rxflen.toNat := by
      rw [List.length_append, List.length_singleton] at hmore
      omega
    have hn : s.rxflen.toNat = 5 + (s.rxflen.toNat - 5 - s.rxCk) + s.rxCk := by omega
    have hverdict := frameDone_eq
      (s := { s with agenda := rest, rxfifo := more, rxbuf := s.rxbuf ++ [b] }) hn
    rw [step_frameDone hb hp hlast hf ha, hverdict]
    simp only [if_neg hmore]
    rfl

/-- Settles O57. A T0 after NOW, which the statement excludes, would count as a quiet period of 0. -/
theorem idleWaitDiscardsThenCompletes : Obligations.IdleWaitDiscardsThenCompletes := by
  refine ⟨fun s rest hb hp hne ha => ?_, fun s rest hb hp hf _ ha => step_quiet hb hp hf ha⟩
  obtain ⟨b, more, hf⟩ := List.exists_cons_of_ne_nil hne
  rw [hf] at ha ⊢
  exact runTurns_discard hb hp hf ha

/-- Settles O6. -/
theorem stepRunsReceivedHeader : Obligations.StepRunsReceivedHeader :=
  fun _ _ _ _ _ ha hb hp hf hfour hd => step_completesHeader hb hp hfour hd hf ha

/-- Settles O17. -/
theorem rdframeStartsScan : Obligations.RdframeStartsScan :=
  fun s a b => ⟨hasWord_of_encode 0x30#8 rfl, execRdframe_eq a b s⟩

/-- Settles O19. -/
theorem idlewaitStartsQuietPeriod : Obligations.IdlewaitStartsQuietPeriod :=
  fun s a b => ⟨hasWord_of_encode 0x32#8 rfl, execIdlewait_eq a b s⟩

/-- Settles O20. -/
theorem rxflushEmptiesAndCounts : Obligations.RxflushEmptiesAndCounts :=
  fun s a b => ⟨hasWord_of_encode 0x33#8 rfl, execRxflush_eq a b s⟩

/-- Settles O30: both rows evaluate their own header. -/
theorem receivedHeaderIsEvaluated : Obligations.ReceivedHeaderIsEvaluated :=
  fun _ _ _ _ _ _ => ⟨congrArg Host.Outcome.next (evaluateHeader_eq ..),
    congrArg Host.Outcome.next (evaluateHeader_eq ..)⟩

end Sys2Proof.Machine
end

section
/-! Fly-by (42_frame_decode.md R236 to R239): the fly-by registers after any part of a foreign frame,
and SEQ's turns that consume the frame. -/

namespace Sys2Proof.Machine

/-! ### The fly-by registers, byte by byte -/

/-- A byte the checksum covers is folded into FBACC. -/
theorem FlyBy.consume_covered {b : Byte} {f : FlyBy} (hmin : 5 + ckSize f.mode ≤ f.len.toNat)
    (hcov : f.cnt.toNat < f.len.toNat - ckSize f.mode) :
    f.consume b = { f with acc := ckStep f.mode f.acc b, cnt := f.cnt + 1 } := by
  simp only [FlyBy.consume, if_pos hmin, if_pos hcov]
  rfl

/-- A byte of the trailer is compared with the checksum's byte at its place. -/
theorem FlyBy.consume_trailer {b : Byte} {f : FlyBy} (hmin : 5 + ckSize f.mode ≤ f.len.toNat)
    (hcov : f.len.toNat - ckSize f.mode ≤ f.cnt.toNat) :
    f.consume b = { f with
      cnt := f.cnt + 1
      bad := f.bad ||
        !((ckBytes f.mode f.acc)[f.cnt.toNat - (f.len.toNat - ckSize f.mode)]? == some b) } := by
  simp only [FlyBy.consume, if_pos hmin, if_neg (Nat.not_lt.2 hcov)]
  split <;> rename_i h <;> simp [h]

/-- A byte of a frame too short for its checksum is only counted. -/
theorem FlyBy.consume_short (b : Byte) {f : FlyBy} (hshort : f.len.toNat < 5 + ckSize f.mode) :
    f.consume b = { f with cnt := f.cnt + 1 } := by
  simp only [FlyBy.consume, if_neg (Nat.not_le.2 hshort)]
  rfl

/-- A byte moves FBCNT on by one while bytes are left. -/
theorem FlyBy.consume_cnt_toNat (b : Byte) {f : FlyBy} (h : f.cnt.toNat < f.len.toNat) :
    (f.consume b).cnt.toNat = f.cnt.toNat + 1 := by
  rw [(FlyBy.consume_count b f).1]
  bv_omega

/-- So it is the frame's last when one was left. -/
theorem FlyBy.consume_last_iff (b : Byte) {f : FlyBy} (h : f.cnt.toNat < f.len.toNat) :
    (f.consume b).cnt = (f.consume b).len ↔ f.cnt.toNat + 1 = f.len.toNat := by
  rw [← BitVec.toNat_inj, FlyBy.consume_cnt_toNat b h, (FlyBy.consume_count b f).2]

/-- The registers after several bytes. -/
def FlyBy.consumeAll : List Byte → FlyBy → FlyBy
  | [], f => f
  | b :: bytes, f => consumeAll bytes (f.consume b)

/-- The bytes of a frame too short for its checksum never set FBBAD. -/
theorem FlyBy.consumeAll_short {bytes : List Byte} {f : FlyBy}
    (hshort : f.len.toNat < 5 + ckSize f.mode) :
    (f.consumeAll bytes).bad = f.bad := by
  induction bytes generalizing f with
  | nil => rfl
  | cons b bytes ih =>
    rw [FlyBy.consumeAll, FlyBy.consume_short b hshort]
    exact ih hshort

/-- The fly-by registers when the bytes `taken` of a frame of mode m and declared length len have been
consumed: FBACC is the checksum of those that the trailer covers, FBBAD tells that those of the trailer
do not begin that checksum. -/
def FlyBy.after (seed : BitVec 16) (m : Bool) (len : BitVec 16) (taken : List Byte) : FlyBy where
  acc := ckRange seed m (taken.take (len.toNat - ckSize m))
  cnt := BitVec.ofNat 16 taken.length
  len := len
  mode := m
  bad := !(taken.drop (len.toNat - ckSize m)).isPrefixOf
    (ckBytes m (ckRange seed m (taken.take (len.toNat - ckSize m))))

/-- A list with one more byte begins another exactly when the list does and the byte comes next. -/
theorem isPrefixOf_concat (l whole : List Byte) (b : Byte) :
    (l ++ [b]).isPrefixOf whole = (l.isPrefixOf whole && whole[l.length]? == some b) := by
  rw [Bool.eq_iff_iff, Bool.and_eq_true, List.isPrefixOf_iff_prefix, List.isPrefixOf_iff_prefix,
    beq_iff_eq]
  constructor
  · rintro ⟨t, rfl⟩
    simp
  · rintro ⟨⟨t, rfl⟩, hb⟩
    rw [List.getElem?_append_right (Nat.le_refl _), Nat.sub_self, ← List.head?_eq_getElem?] at hb
    obtain ⟨t, rfl⟩ := List.head?_eq_some_iff.1 hb
    exact ⟨t, by simp⟩

section Frame

variable {seed : BitVec 16} {m : Bool} {len : BitVec 16} {taken : List Byte}

/-- One more byte of the frame. -/
theorem FlyBy.consume_after (b : Byte) (hmin : 5 + ckSize m ≤ len.toNat)
    (hlt : taken.length < len.toNat) :
    (FlyBy.after seed m len taken).consume b = FlyBy.after seed m len (taken ++ [b]) := by
  have hcnt : (FlyBy.after seed m len taken).cnt.toNat = taken.length := by
    have := len.isLt
    exact Nat.mod_eq_of_lt (by omega)
  have hnext : BitVec.ofNat 16 (taken ++ [b]).length = BitVec.ofNat 16 taken.length + 1 := by
    rw [List.length_append, BitVec.ofNat_add]
    rfl
  by_cases hcov : taken.length < len.toNat - ckSize m
  · have hfold : ckStep m (ckRange seed m taken) b = ckRange seed m (taken ++ [b]) := by
      rw [ckRange_append]
      rfl
    have hle : (taken ++ [b]).length ≤ len.toNat - ckSize m := by
      rw [List.length_append]
      exact hcov
    rw [FlyBy.consume_covered hmin (hcnt ▸ hcov)]
    simp only [FlyBy.after, hnext, List.take_of_length_le hle, List.take_of_length_le hcov.le,
      List.drop_eq_nil_of_le hle, List.drop_eq_nil_of_le hcov.le, hfold, List.isPrefixOf_nil_left]
  · rw [not_lt] at hcov
    rw [FlyBy.consume_trailer hmin (hcnt ▸ hcov), hcnt]
    simp only [FlyBy.after, hnext, List.take_append_of_le_length hcov,
      List.drop_append_of_le_length hcov, isPrefixOf_concat, List.length_drop, Bool.not_and]

/-- Several more. -/
theorem FlyBy.consumeAll_after {bytes : List Byte} (hmin : 5 + ckSize m ≤ len.toNat)
    (hle : taken.length + bytes.length ≤ len.toNat) :
    (FlyBy.after seed m len taken).consumeAll bytes =
      FlyBy.after seed m len (taken ++ bytes) := by
  induction bytes generalizing taken with
  | nil => rw [List.append_nil, FlyBy.consumeAll]
  | cons b bytes ih =>
    rw [List.length_cons] at hle
    have hlt : taken.length < len.toNat := by omega
    have hle' : (taken ++ [b]).length + bytes.length ≤ len.toNat := by
      rw [List.length_append, List.length_singleton]
      omega
    rw [FlyBy.consumeAll, FlyBy.consume_after b hmin hlt, List.append_cons taken b bytes,
      ih hle']

/-- The header alone: all covered, nothing compared. -/
theorem FlyBy.after_header {header : List Byte} (hfive : header.length = 5)
    (hmin : 5 + ckSize m ≤ len.toNat) :
    FlyBy.after seed m len header = ⟨ckRange seed m header, 5, len, m, false⟩ := by
  have hle : header.length ≤ len.toNat - ckSize m := by omega
  simp only [FlyBy.after, List.take_of_length_le hle, List.drop_eq_nil_of_le hle, hfive,
    List.isPrefixOf_nil_left]
  rfl

/-- The whole frame: FBBAD is that ck_verify fails. -/
theorem FlyBy.after_bad {frame : List Byte} (hmin : 5 + ckSize m ≤ len.toNat)
    (hlen : frame.length = len.toNat) :
    (FlyBy.after seed m len frame).bad = !ckVerify seed m (frame.take (len.toNat - ckSize m))
      (frame.drop (len.toNat - ckSize m)) := by
  have htrailer : (frame.drop (len.toNat - ckSize m)).length = ckSize m := by
    rw [List.length_drop]
    omega
  refine congrArg Bool.not ?_
  rw [ckVerify, Bool.eq_iff_iff, List.isPrefixOf_iff_prefix, beq_iff_eq]
  exact ⟨fun h => (h.eq_of_length (by rw [htrailer, ckBytes_length])).symm,
    fun h => h ▸ List.prefix_refl _⟩

end Frame

/-! ### SEQ's turns -/

/-- The end of a foreign frame: a failure is counted and SEQ scans on (R238). -/
def State.flownBy (s : State) : State :=
  { (if s.fb.bad then s.countFlyBy else s) with ph := .rxScan }

theorem flownBy_eq (s : State) : s.flownBy = { s with
    ph := .rxScan
    cnt := { s.cnt with flyByErr := s.cnt.flyByErr +
      if s.cfg.flyBy = true ∧ s.fb.bad = true then 1 else 0 } } := by
  rw [State.flownBy]
  by_cases hbad : s.fb.bad = true
  · rw [if_pos hbad, countFlyBy_fields, State.countFlyBy_cnt]
    by_cases hon : s.cfg.flyBy = true
    · simp [hon, hbad]
    · simp [hon]
  · simp [hbad]

section Turns

variable {s : State} {rest : List Event} {more : List Byte}

/-- A byte of a foreign frame that is not its last. -/
theorem step_flyBy {b : Byte} (hb : s.busy = true) (hp : s.ph = .fbBody)
    (hlt : s.fb.cnt.toNat + 1 < s.fb.len.toNat) (hf : s.rxfifo = b :: more)
    (ha : s.agenda = .seq :: rest) :
    step s = .next { s with agenda := rest, rxfifo := more, fb := s.fb.consume b } := by
  have hne := mt (FlyBy.consume_last_iff b (Nat.lt_of_succ_lt hlt)).1 hlt.ne
  apply step_seq_moved ha
  simp [seqStep, hb, hp, seqReceive, hf, seqFbBody, hne]

/-- The last byte of a foreign frame. -/
theorem step_flyBy_last {b : Byte} (hb : s.busy = true) (hp : s.ph = .fbBody)
    (hlast : s.fb.cnt.toNat + 1 = s.fb.len.toNat) (hf : s.rxfifo = b :: more)
    (ha : s.agenda = .seq :: rest) :
    step s =
      .next (State.flownBy { s with agenda := rest, rxfifo := more, fb := s.fb.consume b }) := by
  have heq := (FlyBy.consume_last_iff b (Nat.lt_of_succ_le hlast.le)).2 hlast
  apply step_seq_moved ha
  simp [seqStep, hb, hp, seqReceive, hf, seqFbBody, heq, State.flownBy]

/-- FBBODY consumes the bytes left of a foreign frame, one a turn: by induction on those after the
first. -/
theorem runTurns_flyBy {b : Byte} {bytes : List Byte} (hb : s.busy = true) (hp : s.ph = .fbBody)
    (hlen : s.fb.cnt.toNat + (bytes.length + 1) = s.fb.len.toNat)
    (hf : s.rxfifo = b :: bytes ++ more)
    (ha : s.agenda = List.replicate (bytes.length + 1) .seq ++ rest) :
    runTurns (bytes.length + 1) s = .next (State.flownBy
      { s with agenda := rest, rxfifo := more, fb := s.fb.consumeAll (b :: bytes) }) := by
  induction bytes generalizing s b with
  | nil => exact runTurns_succ (step_flyBy_last hb hp hlen hf ha)
  | cons c bytes ih =>
    rw [List.length_cons] at hlen ha ⊢
    have hlt : s.fb.cnt.toNat + 1 < s.fb.len.toNat := by omega
    have hleft : (s.fb.consume b).cnt.toNat + (bytes.length + 1) = (s.fb.consume b).len.toNat := by
      rw [FlyBy.consume_cnt_toNat b (Nat.lt_of_succ_lt hlt), (FlyBy.consume_count b s.fb).2]
      omega
    rw [runTurns_succ (step_flyBy hb hp hlt hf (replicate_seq_succ (bytes.length + 1) rest ▸ ha))]
    apply ih
    exacts [hb, hp, hleft, rfl, rfl]

/-- The same for a foreign frame whose five header bytes have been taken. -/
theorem runTurns_foreignBody {m : Bool} {len acc : BitVec 16} {body : List Byte} (hb : s.busy = true)
    (hp : s.ph = .fbBody) (hmore : 5 < len.toNat) (hlen : 5 + body.length = len.toNat)
    (hfb : s.fb = ⟨acc, 5, len, m, false⟩) (hf : s.rxfifo = body ++ more)
    (ha : s.agenda = List.replicate body.length .seq ++ rest) :
    runTurns body.length s = .next (State.flownBy
      { s with agenda := rest, rxfifo := more, fb := s.fb.consumeAll body }) := by
  obtain ⟨b, bytes, rfl⟩ := List.exists_cons_of_length_pos (l := body) (by omega)
  exact runTurns_flyBy hb hp (by rw [hfb]; exact hlen) hf ha

end Turns

/-! ### The statement -/

/-- Settles O56: the consumed bytes are header and body, so FBBAD is the verdict on the whole frame; in
a frame too short nothing sets FBBAD. -/
theorem flyByVerdictIsCkVerify : Obligations.FlyByVerdictIsCkVerify := by
  refine ⟨?_, ?_⟩
  · intro s rest m len header body more hb hp hmin hfive hlen hfb hf ha
    have hframe : (header ++ body).length = len.toNat := by rw [List.length_append, hfive, hlen]
    have hmore : 5 < len.toNat := Nat.lt_of_lt_of_le (Nat.add_lt_add_left (ckSize_pos m) 5) hmin
    have hbad : (s.fb.consumeAll body).bad = true ↔ ckVerify s.par.crcSeed m
        ((header ++ body).take (len.toNat - ckSize m))
        ((header ++ body).drop (len.toNat - ckSize m)) = false := by
      rw [hfb, ← FlyBy.after_header hfive hmin,
        FlyBy.consumeAll_after hmin (by rw [hfive, hlen]), FlyBy.after_bad hmin hframe,
        Bool.not_eq_true']
    refine ⟨_, runTurns_foreignBody hb hp hmore hlen hfb hf ha, ?_⟩
    rw [flownBy_eq]
    simp only [hbad]
    rfl
  · intro s rest m len header body more hb hp hmore hshort _ hlen hfb hf ha
    have hbad : (s.fb.consumeAll body).bad = false := by
      rw [hfb]
      exact FlyBy.consumeAll_short hshort
    refine ⟨_, runTurns_foreignBody hb hp hmore hlen hfb hf ha, ?_⟩
    rw [State.flownBy, if_neg (ne_true_of_eq_false hbad)]

end Sys2Proof.Machine
end

section
/-! Time (43_timer.md): what a turn can do to NOW, to the receive time RXTS, to the line and to a timeout,
and what follows for the turnaround, the receive time and the deadline of an RDFRAME. -/

namespace Sys2Proof.Machine

/-! ### What a turn does to NOW, RXTS, TXLINE and a timeout -/

/-- The state has these values of NOW, RXTS and TXLINE, and TIMEOUT in RES only where the code before
was TIMEOUT. -/
structure State.HasTiming (now rxts : BitVec 64) (txline : List Byte) (before : ResultCode)
    (t : State) : Prop where
  now : t.now = now
  rxts : t.rxts = rxts
  txline : t.txline = txline
  res : t.res = .timeout → before = .timeout

/-- NOW, RXTS and TXLINE are kept, and no command times out. -/
def TimingKept (s t : State) : Prop := t.HasTiming s.now s.rxts s.txline s.res

/-- The receive time is recorded (43_timer.md R275), and the timing is otherwise kept. -/
def ReceptionStamped (s t : State) : Prop := t.HasTiming s.now s.now s.txline s.res

/-- The state an RDFRAME leaves that completes on a byte it consumed (42_frame_decode.md R241). -/
def FrameEnded (t : State) : Prop :=
  t.busy = false ∧ (t.res = .ok ∨ t.res = .crcErr ∨ t.res = .overflow ∨ t.res = .badLen)

/-- Why turn e records the receive time, the deadline of an RDFRAME aside (43_timer.md R275). -/
inductive StampCause (s t : State) : Event → Prop where
  | frameEnded (hb : s.busy = true) (hr : s.ph.receiving = true) (h : FrameEnded t) :
      StampCause s t .seq
  | quiet (hb : s.busy = true) (hp : s.ph = .idleWt) (hdisc : s.disc ≠ 0) (hres : t.res = .ok) :
      StampCause s t .seq
  | flushed {w : Word} {a : BitVec 8} {b : BitVec 16} (hd : decodeCommand w = .ok (.rxflush a b))
      (hf : s.rxfifo ≠ []) (hb : s.busy = false) (hres : t.res = .ok) :
      StampCause s t (.write 0 8 w)
  | faulted (hb : s.busy = true) (hr : s.ph.receiving = true) (hres : t.res = .ioErr) :
      StampCause s t .lineFault

/-- What turn e may do to the timing, one row per kind of change. -/
inductive TimingChange (s t : State) : Event → Prop where
  | kept {e : Event} (h : TimingKept s t) : TimingChange s t e
  | ticked {d : Nat} (hd : 1 ≤ d) (hb : s.now.toNat + d < Config.nowBound)
      (h : t.HasTiming (s.nowPlus d) s.rxts s.txline s.res) : TimingChange s t (.tick d)
  | emitted {b : Byte} (hp : s.ph = .txShift) (hb : s.txbuf[s.txpos]? = some b)
      (h : t.HasTiming s.now s.rxts (s.txline ++ [b]) s.res) : TimingChange s t .seq
  | stamped {e : Event} (hcause : StampCause s t e) (h : ReceptionStamped s t) : TimingChange s t e
  | timedOut (hb : s.busy = true) (hr : s.ph.receiving = true) (hf : s.rxfifo = [])
      (hd : s.dl ≤ s.now) (h : t = s.rxDone .timeout 0#64) : TimingChange s t .seq
  | reset (hres : t.res = .ok) : TimingChange s t .reset

/-! ### HOST's turns -/

/-- Everything a stamp on a condition can do. -/
theorem stampIf_cases (discarded : Bool) (s : State) :
    (discarded = true ∧ s.stampIf discarded = { s with rxts := s.now }) ∨
    (discarded = false ∧ s.stampIf discarded = s) := by
  cases discarded
  · exact .inr ⟨rfl, rfl⟩
  · exact .inl ⟨rfl, rfl⟩

/-- Of the commands RXFLUSH alone records a receive time, when it discarded a byte (42_frame_decode.md
R248), and none times out within HOST's write. -/
theorem exec_timing {i : Instr} {s t : State} (hc : i.isCommand = true) (h : exec i s = .next t) :
    TimingKept s t ∨
    ((∃ a b, i = .rxflush a b) ∧ s.rxfifo ≠ [] ∧ t.res = .ok ∧ ReceptionStamped s t) := by
  have refusedArg : TimingKept s (s.refuse .badArg) := ⟨rfl, rfl, rfl, nofun⟩
  have refusedState : TimingKept s (s.refuse .badState) := ⟨rfl, rfl, rfl, nofun⟩
  cases i with
  | frameSum8 | frameCrc16 => cases hc
  | rxrd a b =>
    cases h
    refine .inl (withOperands_ind refusedArg fun _ _ => ?_)
    split
    · exact refusedArg
    · exact withOperands_ind refusedArg fun _ _ => ⟨rfl, rfl, rfl, nofun⟩
  | wrframe a b | rdframe a b | idlewait a b =>
    cases h
    exact .inl (withOperands_ind refusedArg fun _ _ => whenOpen_ind refusedState fun _ =>
      ⟨rfl, rfl, rfl, nofun⟩)
  | resend a b =>
    cases h
    refine .inl (withOperands_ind refusedArg fun _ _ => whenOpen_ind refusedState fun _ => ?_)
    split <;> exact ⟨rfl, rfl, rfl, nofun⟩
  | rxflush a b =>
    rw [exec, execRxflush_eq] at h
    cases h
    split_ifs with hop hopen hany
    · exact .inr ⟨⟨a, b, rfl⟩, List.ne_nil_of_length_pos hany, rfl, rfl, rfl, rfl, nofun⟩
    · exact .inl ⟨rfl, rfl, rfl, nofun⟩
    · exact .inl ⟨rfl, rfl, rfl, nofun⟩
    · exact .inl ⟨rfl, rfl, rfl, nofun⟩
  | txppush a b | linkopen a b =>
    cases h
    refine .inl (withOperands_ind refusedArg fun _ _ => ?_)
    split <;> exact ⟨rfl, rfl, rfl, nofun⟩
  | _ a b =>
    cases h
    exact .inl (withOperands_ind refusedArg fun _ _ => ⟨rfl, rfl, rfl, nofun⟩)

/-- HOST's write keeps the timing, or runs an RXFLUSH that discards. -/
theorem hostWrite_timing {off width : Nat} {v : Word} {s t : State}
    (h : hostWrite off width v s = .next t) : TimingChange s t (.write off width v) := by
  rcases hostWrite_cases h with
    ⟨-, rfl⟩ | ⟨-, -, -, rfl⟩ | ⟨rfl, rfl, hb, hr⟩ | ⟨-, -, -, -, rfl⟩
  · exact .kept ⟨rfl, rfl, rfl, id⟩
  · exact .kept ⟨rfl, rfl, rfl, id⟩
  · rcases runCommand_cases hr with ⟨i, hd, he⟩ | ⟨-, rfl⟩
    · rcases exec_timing (isCommand_of_decode hd) he with hk | ⟨⟨a, b, rfl⟩, hf, hres, hs⟩
      · exact .kept hk
      · exact .stamped (.flushed hd hf hb hres) hs
    · exact .kept ⟨rfl, rfl, rfl, nofun⟩
  · rw [regWrite_fields]
    exact .kept ⟨rfl, rfl, rfl, id⟩

/-! ### SEQ's turns -/

/-- The evaluation of a header goes on receiving, or ends the RDFRAME with OVERFLOW or BADLEN. -/
theorem evaluateHeader_timing (m : Bool) (address : Byte) (len : BitVec 16) (ctrl : Byte)
    (header : List Byte) (s : State) :
    TimingKept s (evaluateHeader m address len ctrl header s) ∨
    (FrameEnded (evaluateHeader m address len ctrl header s) ∧
      ReceptionStamped s (evaluateHeader m address len ctrl header s)) := by
  rcases evaluateHeader_cases m address len ctrl header s with
    ⟨-, -, h⟩ | ⟨-, -, -, h⟩ | ⟨-, -, -, h⟩ | ⟨-, -, h⟩ | ⟨-, -, -, h⟩ | ⟨-, -, h⟩ <;> rw [h]
  · exact .inr ⟨⟨rfl, .inr (.inr (.inl rfl))⟩, rfl, rfl, rfl, nofun⟩
  · exact .inr ⟨⟨rfl, .inr (.inr (.inr rfl))⟩, rfl, rfl, rfl, nofun⟩
  · exact .inl ⟨rfl, rfl, rfl, id⟩
  · rw [countFlyBy_fields]
    exact .inl ⟨rfl, rfl, rfl, id⟩
  · rw [countFlyBy_fields]
    exact .inl ⟨rfl, rfl, rfl, id⟩
  · exact .inl ⟨rfl, rfl, rfl, id⟩

/-- The verdict on a complete frame ends the RDFRAME with OK or CRCERR. -/
theorem frameDone_timing (s : State) : FrameEnded s.frameDone ∧ ReceptionStamped s s.frameDone := by
  unfold State.frameDone
  dsimp only
  split
  · exact ⟨⟨rfl, .inl rfl⟩, rfl, rfl, rfl, nofun⟩
  · exact ⟨⟨rfl, .inr (.inl rfl)⟩, rfl, rfl, rfl, nofun⟩

/-- A byte of a frame for another station keeps the timing. -/
theorem seqFbBody_timing {b : Byte} {s t : State} (h : seqFbBody b s = .moved t) :
    TimingKept s t := by
  simp only [seqFbBody, SeqMove.moved.injEq] at h
  subst h
  rw [countFlyBy_fields]
  split_ifs <;> exact ⟨rfl, rfl, rfl, id⟩

/-- Every way a step of SEQ within its phase can change the timing. -/
theorem seqStep_timing {s t : State} (hm : seqStep s = .moved t) : TimingChange s t .seq := by
  have hs := seqStep_cases s
  rw [hm] at hs
  rcases hs with hs | ⟨-, -, -, hs⟩ | ⟨-, hp, b, hb, s1, rfl, ⟨-, hs⟩ | ⟨-, hs⟩⟩ |
    ⟨hb, hr, hf, hd, hs⟩ | ⟨hb, hr, b, rest, -, hs⟩ | ⟨-, -, b, rest, -, hs⟩ | ⟨hb, hp, -, -, hs⟩
  · cases hs
  · cases hs; exact .kept ⟨rfl, rfl, rfl, id⟩
  · cases hs; exact .emitted hp hb ⟨rfl, rfl, rfl, nofun⟩
  · cases hs; exact .emitted hp hb ⟨rfl, rfl, rfl, id⟩
  · cases hs; exact .timedOut hb hr hf hd rfl
  · rcases hs with ⟨-, hs⟩ | ⟨-, hs⟩ | ⟨-, hs⟩ | ⟨-, hs⟩
    · simp only [seqRxScan, SeqMove.moved.injEq] at hs
      subst hs
      split <;> exact .kept ⟨rfl, rfl, rfl, id⟩
    · simp only [seqRxHdr] at hs
      split at hs <;> cases hs
      exact .kept ⟨rfl, rfl, rfl, id⟩
    · simp only [seqRxBody, SeqMove.moved.injEq] at hs
      subst hs
      split
      · obtain ⟨hended, hk⟩ := frameDone_timing { s with rxfifo := rest, rxbuf := s.rxbuf ++ [b] }
        exact .stamped (.frameEnded hb hr hended) hk
      · exact .kept ⟨rfl, rfl, rfl, id⟩
    · have hk := seqFbBody_timing hs.symm
      exact .kept hk
  · cases hs; exact .kept ⟨rfl, rfl, rfl, id⟩
  · cases hs
    rcases stampIf_cases (s.disc != 0#64) s with ⟨hd, hs⟩ | ⟨-, hs⟩ <;> rw [hs]
    · exact .stamped (.quiet hb hp (by simpa using hd) rfl) ⟨rfl, rfl, rfl, nofun⟩
    · exact .kept ⟨rfl, rfl, rfl, nofun⟩

/-- SEQ completes a header in a receive phase, with nothing but the byte stored. -/
theorem seqStep_header_fields {s s1 : State} (hh : seqStep s = .header s1) :
    s.busy = true ∧ s.ph.receiving = true ∧ ∃ b rest,
      s1 = { s with rxfifo := rest, rxbuf := s.rxbuf ++ [b] } := by
  have hs := seqStep_cases s
  rw [hh] at hs
  rcases hs with hs | ⟨-, -, -, ⟨⟩⟩ | ⟨-, -, b, -, _, rfl, ⟨-, ⟨⟩⟩ | ⟨-, ⟨⟩⟩⟩ | ⟨-, -, -, -, ⟨⟩⟩ |
    ⟨hb, hr, b, rest, -, ⟨-, ⟨⟩⟩ | ⟨-, hs⟩ | ⟨-, ⟨⟩⟩ | ⟨-, ⟨⟩⟩⟩ | ⟨-, -, b, rest, -, ⟨⟩⟩ | ⟨-, -, -, -, ⟨⟩⟩
  · cases hs
  · simp only [seqRxHdr] at hs
    split at hs <;> cases hs
    exact ⟨hb, hr, b, rest, rfl⟩

/-- Every way SEQ's turn can change the timing. -/
theorem seqTurn_timing {s t : State} (h : seqTurn s = .next t) : TimingChange s t .seq := by
  rcases seqTurn_cases h with ⟨-, rfl⟩ | hm | ⟨s1, i, hh, hd, he⟩
  · exact .kept ⟨rfl, rfl, rfl, id⟩
  · exact seqStep_timing hm
  · obtain ⟨hb, hr, b, rest, rfl⟩ := seqStep_header_fields hh
    obtain ⟨m, address, len, ctrl, rfl, -, -⟩ := exec_header hd he
    rcases evaluateHeader_timing m address len ctrl (s.rxbuf ++ [b])
      { s with rxfifo := rest, rxbuf := s.rxbuf ++ [b] } with hk | ⟨hended, hk⟩
    · exact .kept hk
    · exact .stamped (.frameEnded hb hr hended) hk

/-- In a receive phase with RXFIFO empty at or after the deadline SEQ's step times out
(42_frame_decode.md R242). -/
theorem seqStep_expired {s : State} (hb : s.busy = true) (hr : s.ph.receiving = true)
    (hf : s.rxfifo = []) (hd : s.dl ≤ s.now) : seqStep s = .moved (s.rxDone .timeout 0#64) := by
  have hreceive (consume : Byte → State → SeqMove) :
      seqReceive s consume = .moved (s.rxDone .timeout 0#64) := by
    simp only [seqReceive, hf, if_pos hd]
  rw [seqStep, if_pos hb]
  cases hp : s.ph with
  | rxScan | rxHdr | rxBody | fbBody => exact hreceive _
  | idle | txWait | txShift | idleWt => rw [hp] at hr; cases hr

/-! ### The environment's turns and the step -/

/-- Within the premise of 10_state.md R32 the sum NOW + d does not wrap. -/
theorem nowPlus_toNat_of_lt {s : State} {d : Nat} (h : s.now.toNat + d < Config.nowBound) :
    (s.nowPlus d).toNat = s.now.toNat + d := by
  rw [State.nowPlus, BitVec.toNat_ofNat, Nat.mod_eq_of_lt]
  simp only [Config.nowBound] at h
  omega

theorem lineFault_timing (s : State) : TimingChange s (lineFault s) .lineFault := by
  simp only [lineFault]
  split
  · split
    · rename_i hb
      rcases stampIf_cases s.ph.receiving
        { s with linkOpen := false, linkerr := true, rxfifo := [] } with ⟨hr, hs⟩ | ⟨-, hs⟩ <;> rw [hs]
      · exact .stamped (.faulted hb hr rfl) ⟨rfl, rfl, rfl, nofun⟩
      · exact .kept ⟨rfl, rfl, rfl, nofun⟩
    · exact .kept ⟨rfl, rfl, rfl, id⟩
  · exact .kept ⟨rfl, rfl, rfl, id⟩

/-- Every way a turn can change the timing, up to the turns to come. -/
theorem step_timing {s t : State} (h : step s = .next t) :
    ∃ agenda turn, TimingChange { s with agenda := agenda, turn := turn } t (nextTurn s) := by
  refine ⟨s.afterTurn.agenda, s.afterTurn.turn, ?_⟩
  rw [← afterTurn_eq]
  rcases step_cases h with ⟨off, width, v, he, hw⟩ | ⟨off, width, he, rfl⟩ | ⟨he, hs⟩ |
    ⟨d, he, ⟨-, rfl⟩ | ⟨hd, hb, rfl⟩⟩ | ⟨b, he, rfl⟩ | ⟨he, rfl⟩ | ⟨he, rfl⟩ <;> rw [he]
  · exact hostWrite_timing hw
  · exact .kept ⟨rfl, rfl, rfl, id⟩
  · exact seqTurn_timing hs
  · exact .kept ⟨rfl, rfl, rfl, id⟩
  · exact .ticked hd (by rwa [State.afterTurn_now]) ⟨rfl, rfl, rfl, id⟩
  · rw [rxArrive_fields]
    exact .kept ⟨rfl, rfl, rfl, id⟩
  · exact lineFault_timing _
  · exact .reset rfl

/-! ### The statements -/

/-- Settles O45: of all turns TXSHIFT's alone emits, and the invariant has the turnaround over by then. -/
theorem nothingSentBeforeTurnaround : Obligations.NothingSentBeforeTurnaround := by
  intro s t hi h hne hline
  obtain ⟨agenda, turn, hc⟩ := step_timing h
  generalize nextTurn s = e at hc hne
  cases hc with
  | emitted hp hb hk =>
    obtain ⟨hvalid, -⟩ := hi.transmitting (.inr hp)
    exact ⟨⟨_, hb, hk.txline⟩, hvalid, hp, of_decide_eq_true (hi.turnaround hp)⟩
  | kept hk => exact absurd hk.txline hline
  | ticked _ _ hk => exact absurd hk.txline hline
  | stamped _ hk => exact absurd hk.txline hline
  | timedOut _ _ _ _ ht => exact absurd (by rw [ht]; rfl) hline
  | reset => exact absurd rfl hne

/-- Settles O47: the causes of a stamp and the timeout are the four events of R275. -/
theorem rxtsWrittenOnlyOnReception : Obligations.RxtsWrittenOnlyOnReception := by
  intro s t h hne hrxts
  obtain ⟨agenda, turn, hc⟩ := step_timing h
  generalize nextTurn s = e at hc hne ⊢
  cases hc with
  | kept hk => exact absurd hk.rxts hrxts
  | ticked _ _ hk => exact absurd hk.rxts hrxts
  | emitted _ _ hk => exact absurd hk.rxts hrxts
  | timedOut hb hr _ _ ht =>
    subst ht
    exact ⟨rfl, .inl ⟨rfl, hr, hb, rfl, .inr (.inl rfl)⟩⟩
  | stamped hcause hk =>
    refine ⟨hk.rxts, ?_⟩
    cases hcause with
    | frameEnded hb hr hended =>
      obtain ⟨hbusy, hres⟩ := hended
      exact .inl ⟨rfl, hr, hb, hbusy, hres.imp_right .inr⟩
    | faulted hb hr hres => exact .inr (.inl ⟨rfl, hr, hb, hres⟩)
    | quiet hb hp hdisc hres => exact .inr (.inr (.inl ⟨rfl, hp, hb, hdisc, hres⟩))
    | flushed hd hf hb hres => exact .inr (.inr (.inr ⟨_, _, _, rfl, hd, hf, hb, hres⟩))
  | reset => exact absurd rfl hne

/-- Settles O48: a tick within the premise on NOW does not wrap. -/
theorem onlyTickMovesTime : Obligations.OnlyTickMovesTime := by
  intro s t h hne hnow
  obtain ⟨agenda, turn, hc⟩ := step_timing h
  generalize nextTurn s = e at hc hne ⊢
  cases hc with
  | ticked hd hb hk =>
    have hsum : t.now.toNat = s.now.toNat + _ := hk.now ▸ nowPlus_toNat_of_lt hb
    exact ⟨BitVec.lt_def.2 (by omega), _, rfl, hsum⟩
  | kept hk => exact absurd hk.now hnow
  | emitted _ _ hk => exact absurd hk.now hnow
  | stamped _ hk => exact absurd hk.now hnow
  | timedOut _ _ _ _ ht => exact absurd (by rw [ht]; rfl) hnow
  | reset => exact absurd rfl hne

/-- Settles O52: a new TIMEOUT is the timeout of an empty RXFIFO at the deadline, in each receive phase. -/
theorem timeoutNeverEarly : Obligations.TimeoutNeverEarly := by
  refine ⟨fun s t h hres hnew => ?_, fun s rest ha hb hp hf hd => ?_⟩
  · obtain ⟨agenda, turn, hc⟩ := step_timing h
    generalize nextTurn s = e at hc ⊢
    cases hc with
    | timedOut hb hr hf hd ht =>
      subst ht
      exact ⟨rfl, hr, hf, hd, rfl, rfl, rfl⟩
    | kept hk => exact absurd (hk.res hres) hnew
    | ticked _ _ hk => exact absurd (hk.res hres) hnew
    | emitted _ _ hk => exact absurd (hk.res hres) hnew
    | stamped _ hk => exact absurd (hk.res hres) hnew
    | reset hok => exact absurd (hok.symm.trans hres) nofun
  · have hr : s.ph.receiving = true := by
      rcases hp with hp | hp | hp | hp <;> rw [hp] <;> rfl
    exact step_seq_moved ha
      (seqStep_expired (s := { s with agenda := rest }) hb hr hf (BitVec.le_def.2 hd))

end Sys2Proof.Machine
end

section
/-! The slave table (44_slave.md): the nine slave commands, and the laws of R316 about what they do in
a row and who else can change whether a slot is Online. -/

namespace Sys2Proof.Machine

open Sys2Proof.Certificates

/-! ### Running on a slot (R304, R305) -/

/-- Completing with a word. -/
theorem done_eq_ends (v : Word) (s : State) : s.done v = ends .ok v.toNat s := by
  rw [← done_setWidth, BitVec.setWidth_eq]

/-- Completing with a word after a slot is written, both given by value. -/
theorem done_setSlot_eq {v : Word} {n : Nat} {S S' : Slot} (hv : v.toNat = n) (hS : S = S') (j : Nat)
    (s : State) : (s.setSlot j S).done v = ends .ok n (withSlot j S' s) := by
  rw [done_eq_ends, hv, hS]
  rfl

/-- The form that only names a slot, in the shape of the forms that read b too. -/
theorem Operands.slotOnly_eq_map (a : BitVec 8) (b : BitVec 16) (s : State) :
    Operands.slotOnly a b s = if b = 0 then s.slaves[a.toNat]?.map id else none := by
  rw [Operands.slotOnly_eq, Option.map_id_fun, id]

/-- A slot command whose operand form tests b by `c` and hands on slot a runs on that slot when the test
holds and a is in the table, and ends with BADARG otherwise. -/
theorem exec_onSlot {α : Type} {i : Instr} {s : State} {a : BitVec 8} {c : Prop} [Decidable c]
    {o : Option α} {f : Slot → α} {k : α → State} {body : Slot → State}
    (hlen : s.slaves.length = s.par.nslaves)
    (hexec : exec i s = .next (withOperands o s k))
    (hform : o = if c then s.slaves[a.toNat]?.map f else none)
    (hbody : c → ∀ S, k (f S) = body S) :
    (c ∧ a.toNat < s.par.nslaves →
      ∃ S, s.slaves[a.toNat]? = some S ∧ exec i s = .next (body S)) ∧
    (¬(c ∧ a.toNat < s.par.nslaves) → exec i s = .next (badArg s)) := by
  rw [hexec, hform, ← hlen]
  refine ⟨fun ⟨hc, ha⟩ => ⟨s.slaves[a.toNat], List.getElem?_eq_getElem ha, ?_⟩, fun hill => ?_⟩
  · rw [if_pos hc, List.getElem?_eq_getElem ha, Option.map_some, withOperands_some, hbody hc]
  · split
    · rename_i hc
      rw [List.getElem?_eq_none (Nat.not_lt.1 fun ha => hill ⟨hc, ha⟩)]
      rfl
    · rfl

/-! ### The transitions as arithmetic (R301, R306, R308, R311, R313) -/

/-- An acknowledgement takes a slot Online when it was Offline and MAXRETRY is not 0. -/
theorem ackCrosses_eq (N : BitVec 8) (S : Slot) : (!S.online N && S.ack.online N) =
    decide (N.toNat ≤ S.retry.toNat ∧ 0 < N.toNat) := by
  rw [online_eq, online_eq, Bool.decide_and, ← decide_not, decide_eq_decide.2 Nat.not_lt]
  rfl

theorem nak_eq (N : BitVec 8) (deadline : BitVec 64) (S : Slot) : S.nak N deadline = { S with
    retry := BitVec.ofNat 8 (min (S.retry.toNat + 1) 255)
    backoff := if decide (min (S.retry.toNat + 1) 255 < N.toNat) then deadline else S.backoff } := by
  rw [Slot.nak, nakBacksOff_eq]
  rfl

/-- RESULT of a nak of slot S that leaves TXSEQ q (R308, R310). -/
theorem nakResult_toNat (N : BitVec 8) (S : Slot) (q : BitVec 2) :
    (nakWord (S.nakCrosses N) (S.nakBacksOff N) q (retryUp S.retry)).toNat =
    (decide (S.retry.toNat < N.toNat ∧ N.toNat ≤ min (S.retry.toNat + 1) 255)).toNat * 2
      + (decide (min (S.retry.toNat + 1) 255 < N.toNat)).toNat * 4 + q.toNat * 2 ^ 8
      + min (S.retry.toNat + 1) 255 * 2 ^ 16 := by
  rw [nakWord_toNat, nakCrosses_eq, nakBacksOff_eq, retryUp_toNat]

/-- SLQRY's tests on numbers. -/
theorem query_eq (N : BitVec 8) (now : BitVec 64) (S : Slot) : S.query N now =
    (if S.undef = true then 0
     else if S.en = false then 1
     else if N.toNat ≤ S.retry.toNat then (if now.toNat < S.reacq.toNat then 2 else 3)
     else if now.toNat < S.backoff.toNat then 4
     else 5) := by
  simp [Slot.query, online_eq, BitVec.lt_def]

/-- SLRD's fields as numbers. -/
theorem field_toNat (N : BitVec 8) (S : Slot) {b : BitVec 16} (hb : b.toNat ≤ 3) :
    (S.field N (BitVec.ofNat 2 b.toNat)).toNat =
    (if b = 0 then S.addr.toNat + S.undef.toNat * 2 ^ 7 + S.en.toNat * 2 ^ 8 + S.txseq.toNat * 2 ^ 9
        + S.rxseq.toNat * 2 ^ 11 + (decide (S.retry.toNat < N.toNat)).toNat * 2 ^ 13
     else if b = 1 then S.retry.toNat
     else if b = 2 then S.reacq.toNat
     else S.backoff.toNat) := by
  obtain rfl | rfl | rfl | rfl : b = 0 ∨ b = 1 ∨ b = 2 ∨ b = 3 := by
    simp only [← BitVec.toNat_inj]
    change b.toNat = 0 ∨ b.toNat = 1 ∨ b.toNat = 2 ∨ b.toNat = 3
    omega
  · exact (slotWord_toNat N S).trans (by rw [online_eq]; rfl)
  · exact BitVec.toNat_setWidth_of_le (by decide)
  · rfl
  · rfl

/-! ### Acknowledgements in a row (R316 (a)) -/

theorem exec_slack {s : State} {a : BitVec 8} {S : Slot} (hS : s.slaves[a.toNat]? = some S) :
    ∃ t, exec (.slack a 0) s = .next t ∧ t.slaves[a.toNat]? = some S.ack := by
  refine ⟨_, rfl, ?_⟩
  rw [Operands.slotOnly_eq, if_pos rfl, hS, withOperands_some, State.done_slaves,
    State.setSlot_slaves]
  exact List.getElem?_set_self (List.getElem?_eq_some_iff.1 hS).1

theorem execAll_cons {i : Instr} {s t : State} (h : exec i s = .next t) (rest : List Instr) :
    execAll (i :: rest) s = execAll rest t := by
  rw [execAll, h]

/-- k SLACKs of one slot acknowledge it k times. -/
theorem execAll_slack {s : State} {a : BitVec 8} {S : Slot} (k : Nat)
    (hS : s.slaves[a.toNat]? = some S) :
    ∃ t, execAll (List.replicate k (.slack a 0)) s = .next t ∧
      t.slaves[a.toNat]? = some (Slot.ack^[k] S) := by
  induction k generalizing s S with
  | zero => exact ⟨s, rfl, hS⟩
  | succ k ih =>
    obtain ⟨u, hu, hslot⟩ := exec_slack hS
    rw [List.replicate_succ, execAll_cons hu]
    exact ih hslot

/-- The sequence after k + 1 acknowledgements goes through 1, 2, 3 from any value. -/
theorem ack_iterate_txseq (S : Slot) (k : Nat) :
    (Slot.ack^[k + 1] S).txseq.toNat = (S.txseq.toNat + k) % 3 + 1 := by
  induction k with
  | zero => exact nextSeq_toNat _
  | succ k ih =>
    rw [Function.iterate_succ_apply', Slot.ack, nextSeq_toNat, ih]
    omega

theorem ack_iterate_retry (S : Slot) (k : Nat) : (Slot.ack^[k + 1] S).retry = 0 := by
  rw [Function.iterate_succ_apply']
  rfl

/-! ### Naks in a row (R316 (b)) -/

theorem nakWord_wentOffline (w d : Bool) (q : BitVec 2) (r : BitVec 8) :
    (nakWord w d q r).getLsbD 1 = w := by
  have hd := d.toNat_lt
  rw [BitVec.getLsbD, Nat.testBit_eq_decide_div_mod_eq, nakWord_toNat]
  cases w <;> simp <;> omega

/-- A nak crosses the threshold exactly when it is the one that takes RETRY to MAXRETRY. -/
theorem nakCrosses_iff (N : BitVec 8) (S : Slot) :
    S.nakCrosses N = true ↔ S.retry.toNat + 1 = N.toNat := by
  have := N.isLt
  rw [nakCrosses_eq, decide_eq_true_iff]
  omega

/-- The instruction is a SLNAK or a SLNAKR of slot a. -/
def IsNakOf (a : BitVec 8) (i : Instr) : Prop := i = .slnak a 0 ∨ i = .slnakr a 0

/-- State t is what naks of slot a in a row leave of s, the last one being the n-th failure counted: RETRY
is n up to its cap, and RESULT reports WENT_OFFLINE when n is MAXRETRY. -/
structure NakedTo (a : BitVec 8) (n : Nat) (s t : State) : Prop where
  cfg : t.cfg = s.cfg
  slot : ∃ S, t.slaves[a.toNat]? = some S ∧ S.retry.toNat = min n 255
  reports : t.result.getLsbD 1 = true ↔ n = s.cfg.maxRetry.toNat

/-- Both naks count the failure in the slot and report whether it crosses the threshold; they differ in
TXSEQ only. -/
theorem exec_nak_eq {s : State} {a : BitVec 8} {S : Slot} {i : Instr} (hi : IsNakOf a i)
    (hS : s.slaves[a.toNat]? = some S) : ∃ S1 backsOff, S1.retry = retryUp S.retry ∧
      exec i s = .next ((s.setSlot a.toNat S1).done
        (nakWord (S.nakCrosses s.cfg.maxRetry) backsOff S1.txseq S1.retry)) := by
  have hform : Operands.slotOnly a 0 s = some S := by rw [Operands.slotOnly_eq, if_pos rfl, hS]
  let S1 := S.nak s.cfg.maxRetry (s.nowPlus Config.backoffUs)
  rcases hi with rfl | rfl
  · refine ⟨S1, S.nakBacksOff s.cfg.maxRetry, rfl, ?_⟩
    rw [exec, execSlnak, hform]
    rfl
  · refine ⟨{ S1 with txseq := 0 }, S.nakBacksOff s.cfg.maxRetry, rfl, ?_⟩
    rw [exec, execSlnakr, hform]
    rfl

theorem exec_nak {s : State} {a : BitVec 8} {S : Slot} {i : Instr} (hi : IsNakOf a i)
    (hS : s.slaves[a.toNat]? = some S) :
    ∃ t, exec i s = .next t ∧ NakedTo a (S.retry.toNat + 1) s t := by
  obtain ⟨S1, backsOff, hretry, he⟩ := exec_nak_eq hi hS
  refine ⟨_, he, (exec_frame he).cfg, ⟨S1, ?_, ?_⟩, ?_⟩
  · exact List.getElem?_set_self (List.getElem?_eq_some_iff.1 hS).1
  · rw [hretry, retryUp_toNat]
  · rw [State.done_result, nakWord_wentOffline, nakCrosses_iff]

/-- A row of naks counts each of them, saturation included: past the cap no count is MAXRETRY. -/
theorem execAll_naks {s : State} {a : BitVec 8} {S : Slot} {naks : List Instr}
    (hS : s.slaves[a.toNat]? = some S) (hne : naks ≠ []) (hnaks : ∀ i ∈ naks, IsNakOf a i) :
    ∃ t, execAll naks s = .next t ∧ NakedTo a (S.retry.toNat + naks.length) s t := by
  induction naks generalizing s S with
  | nil => exact absurd rfl hne
  | cons i rest ih =>
    obtain ⟨hi, hrest⟩ := List.forall_mem_cons.1 hnaks
    obtain ⟨u, hu, hnak⟩ := exec_nak hi hS
    rw [execAll_cons hu]
    cases rest with
    | nil => exact ⟨u, rfl, hnak⟩
    | cons j rest =>
      obtain ⟨S1, hS1, hretry⟩ := hnak.slot
      obtain ⟨t, ht, hcfg, ⟨S', hS', hretry'⟩, hreports⟩ := ih hS1 (List.cons_ne_nil j rest) hrest
      have := s.cfg.maxRetry.isLt
      rw [hnak.cfg] at hcfg hreports
      rw [hretry] at hretry' hreports
      simp only [List.length_cons] at hretry' hreports ⊢
      exact ⟨t, ht, hcfg, ⟨S', hS', by omega⟩, hreports.trans (by omega)⟩

/-! ### Who changes whether a slot is Online (R316 (d)) -/

/-- A change of slot by instruction i to an Online slot (`after`) is a SLACK's, to an Offline one a
SLNAK's, a SLNAKR's or a SLCFG's. -/
def ReachabilityCause (i : Instr) (a : BitVec 8) (after : Bool) : Prop := ∃ b : BitVec 16,
  (after = true ∧ i = .slack a b) ∨
  (after = false ∧ (i = .slnak a b ∨ i = .slnakr a b ∨ i = .slcfg a b))

/-- A fresh slot is Offline: no MAXRETRY is above 255. -/
theorem online_of_retry_max {S : Slot} (h : S.retry = 255#8) (N : BitVec 8) : S.online N = false := by
  have := N.isLt
  rw [online_eq, h, decide_eq_false_iff_not]
  change ¬255 < N.toNat
  omega

/-- An acknowledgement takes no slot Offline. -/
theorem online_ack {N : BitVec 8} {S : Slot} (h : S.online N = true) : S.ack.online N = true := by
  rw [online_eq, decide_eq_true_iff] at h ⊢
  exact Nat.zero_lt_of_lt h

/-- A nak takes no slot Online. -/
theorem online_of_nak {N : BitVec 8} {deadline : BitVec 64} {S : Slot}
    (h : (S.nak N deadline).online N = true) : S.online N = true := by
  have := S.retry.isLt
  rw [online_eq, decide_eq_true_iff] at h ⊢
  have hretry : (S.nak N deadline).retry.toNat = min (S.retry.toNat + 1) 255 := retryUp_toNat _
  omega

/-- ONLINE reads RETRY only. -/
theorem online_congr {S S' : Slot} (h : S.retry = S'.retry) (N : BitVec 8) :
    S.online N = S'.online N := by
  rw [Slot.online, Slot.online, h]

theorem SlotChange.cause {i : Instr} {a : BitVec 8} {s : State} {old new : Slot}
    (hc : SlotChange i a s old new)
    (hne : new.online s.cfg.maxRetry ≠ old.online s.cfg.maxRetry) :
    ReachabilityCause i a (new.online s.cfg.maxRetry) := by
  have offline (hmono : new.online s.cfg.maxRetry = true → old.online s.cfg.maxRetry = true) :
      new.online s.cfg.maxRetry = false :=
    Bool.eq_false_iff.2 fun hon => hne (hon.trans (hmono hon).symm)
  rcases hc with ⟨b, rfl, rfl⟩ | ⟨b, e, -, rfl⟩ | ⟨b, rfl, rfl⟩ | ⟨b, rfl, rfl⟩ | ⟨b, rfl, rfl⟩ |
    ⟨b, -, rfl⟩ | ⟨b, q, -, rfl⟩
  · exact ⟨b, .inr ⟨online_of_retry_max rfl _, .inr (.inr rfl)⟩⟩
  · exact absurd (online_congr (by dsimp only) _) hne
  · refine ⟨b, .inl ⟨?_, rfl⟩⟩
    cases hold : old.online s.cfg.maxRetry with
    | true => exact online_ack hold
    | false => rwa [hold, ne_eq, Bool.not_eq_false] at hne
  · exact ⟨b, .inr ⟨offline online_of_nak, .inl rfl⟩⟩
  · refine ⟨b, .inr ⟨offline ?_, .inr (.inl rfl)⟩⟩
    exact online_of_nak (deadline := s.nowPlus Config.backoffUs)
  · exact absurd (online_congr (by dsimp only) _) hne
  · exact absurd (online_congr (by dsimp only) _) hne

/-- An instruction that changes whether slot n is Online is such a cause, of slot n. -/
theorem SlavesAfter.cause {i : Instr} {s t : State} {n : Nat} {S S' : Slot} (h : SlavesAfter i s t)
    (hS : s.slaves[n]? = some S) (hS' : t.slaves[n]? = some S')
    (hne : S'.online s.cfg.maxRetry ≠ S.online s.cfg.maxRetry) :
    ∃ a, a.toNat = n ∧ ReachabilityCause i a (S'.online s.cfg.maxRetry) := by
  have kept (heq : t.slaves[n]? = s.slaves[n]?) : False := by
    rw [heq, hS, Option.some_inj] at hS'
    exact hne (by rw [hS'])
  rcases h with hk | ⟨a, old, new, hold, hset, hc⟩
  · exact (kept (by rw [hk])).elim
  · by_cases ha : a.toNat = n
    · subst ha
      rw [hset, List.getElem?_set_self (List.getElem?_eq_some_iff.1 hS).1, Option.some_inj] at hS'
      rw [hS, Option.some_inj] at hold
      subst hS' hold
      exact ⟨a, rfl, hc.cause hne⟩
    · exact (kept (by rw [hset, List.getElem?_set_ne ha])).elim

/-- HOST's write keeps the slave table, or runs an instruction. -/
theorem hostWrite_slaves {off width : Nat} {v : Word} {s t : State}
    (h : hostWrite off width v s = .next t) : t.slaves = s.slaves ∨
    (width = 8 ∧ off = 0 ∧ s.busy = false ∧ ∃ i, decodeCommand v = .ok i ∧ SlavesAfter i s t) := by
  rcases hostWrite_cases h with ⟨-, rfl⟩ | ⟨-, -, -, rfl⟩ | ⟨hw, h0, hb, hr⟩ | ⟨-, -, -, -, rfl⟩
  · exact .inl rfl
  · exact .inl rfl
  · rcases runCommand_cases hr with ⟨i, hd, he⟩ | ⟨-, rfl⟩
    · exact .inr ⟨hw, h0, hb, i, hd, (exec_slaves he :)⟩
    · exact .inl rfl
  · rw [regWrite_fields]
    exact .inl rfl

/-- Every turn other than reset keeps the slave table, or is HOST's write of a command to CMD while no
command runs. -/
theorem step_slaves {s t : State} (h : step s = .next t) (hne : nextTurn s ≠ .reset) :
    t.slaves = s.slaves ∨ (s.busy = false ∧ ∃ w i, nextTurn s = .write 0 8 w ∧
      decodeCommand w = .ok i ∧ SlavesAfter i s t) := by
  rcases step_cases h with ⟨off, width, v, he, hw⟩ | ⟨off, width, -, rfl⟩ | ⟨-, hs⟩ |
    ⟨d, -, ⟨-, rfl⟩ | ⟨-, -, rfl⟩⟩ | ⟨b, -, rfl⟩ | ⟨-, rfl⟩ | ⟨he, -⟩
  · rw [afterTurn_eq] at hw
    rcases hostWrite_slaves hw with hk | ⟨rfl, rfl, hb, i, hd, hafter⟩
    · exact .inl hk
    · exact .inr ⟨hb, v, i, he, hd, hafter⟩
  · exact .inl (State.afterTurn_slaves s)
  · exact .inl ((seqTurn_frame hs).slaves.trans (State.afterTurn_slaves s))
  · exact .inl (State.afterTurn_slaves s)
  · exact .inl (State.afterTurn_slaves s)
  · rw [rxArrive_fields]
    exact .inl (State.afterTurn_slaves s)
  · rw [lineFault_fields]
    exact .inl (State.afterTurn_slaves s)
  · exact absurd he hne

/-! ### The statements -/

/-- Settles O58, by the iterates of `ack()`. -/
theorem sequenceCycles : Obligations.SequenceCycles := by
  intro s a S k hS hk
  obtain ⟨k, rfl⟩ := Nat.exists_eq_add_of_le' hk
  obtain ⟨t, ht, hslot⟩ := execAll_slack (k + 1) hS
  have hseq := ack_iterate_txseq S k
  refine ⟨t, _, ht, hslot, fun hzero => ?_, ack_iterate_retry S k, fun hresync => ?_⟩
  · rw [hzero] at hseq
    exact absurd hseq (Nat.succ_ne_zero _).symm
  · rw [hseq, hresync, Nat.add_sub_cancel]
    exact congrArg (· % 3 + 1) (Nat.zero_add k)

/-- Settles O59: from RETRY 0 the count is the length of the row. -/
theorem retryThresholdIsExact : Obligations.RetryThresholdIsExact := by
  intro s a S naks hS hzero _ hne hnaks
  obtain ⟨t, ht, -, ⟨S', hS', hretry⟩, hreports⟩ := execAll_naks hS hne hnaks
  have hstart : S.retry.toNat + naks.length = naks.length := by
    rw [hzero]
    exact Nat.zero_add _
  rw [hstart] at hretry hreports
  have := s.cfg.maxRetry.isLt
  refine ⟨t, S', ht, hS', hretry, ?_, hreports⟩
  rw [online_eq, decide_eq_true_iff]
  omega

/-- Settles O60: of the turns only a command write reaches the slave table, and of the slot changes
those four reach RETRY. -/
theorem reachabilityChangesOnlyBySlaveCommands :
    Obligations.ReachabilityChangesOnlyBySlaveCommands := by
  intro s t n S S' h hne hmax hS hS' honline
  rw [hmax] at honline ⊢
  rcases step_slaves h hne with hk | ⟨hb, w, i, hw, hd, hafter⟩
  · rw [hk, hS, Option.some_inj] at hS'
    exact absurd (by rw [hS']) honline
  · obtain ⟨a, ha, b, hcause⟩ := hafter.cause hS hS' honline
    refine ⟨hb, w, a, b, hw, ha, hcause.imp ?_ ?_⟩
    · rintro ⟨hon, rfl⟩
      exact ⟨hon, hd⟩
    · rintro ⟨hoff, rfl | rfl | rfl⟩
      · exact ⟨hoff, .inl hd⟩
      · exact ⟨hoff, .inr (.inl hd)⟩
      · exact ⟨hoff, .inr (.inr hd)⟩

/-- Settles O22: the new slot does not depend on the old one. -/
theorem slcfgReinitialisesSlot : Obligations.SlcfgReinitialisesSlot := by
  intro s a b hlen
  refine ⟨hasWord_of_encode 0x50#8 rfl, ?_⟩
  have hrun :=
    exec_onSlot (i := .slcfg a b) hlen rfl (Operands.slotConfig_eq a b s) fun _ _ => done_eq_ends ..
  split
  · rename_i hok
    obtain ⟨_, -, he⟩ := hrun.1 hok
    exact he
  · rename_i hill
    exact hrun.2 hill

/-- Settles O23: each form hands on the slot and the field's new value. -/
theorem slenSlsrxStoreOneField : Obligations.SlenSlsrxStoreOneField := by
  intro s a b hlen
  obtain ⟨hen, henBad⟩ :=
    exec_onSlot (i := .slen a b) hlen rfl (Operands.slotFlag_eq a b s) fun _ _ => done_eq_ends ..
  exact ⟨hasWord_of_encode 0x51#8 rfl, hasWord_of_encode 0x58#8 rfl, hen, henBad,
    exec_onSlot hlen rfl (Operands.slotPair_eq a b s) fun _ _ => done_eq_ends ..⟩

/-- Settles O24, by RESULT as a number; the slot is `ack()` written out. -/
theorem slackAdvancesAndAcknowledges : Obligations.SlackAdvancesAndAcknowledges := by
  intro s a b hlen
  refine ⟨hasWord_of_encode 0x52#8 rfl,
    exec_onSlot hlen rfl (Operands.slotOnly_eq_map a b s) fun _ S => done_setSlot_eq ?_ rfl ..⟩
  rw [id, ackWord_toNat, ackCrosses_eq]
  exact congrArg (_ + · * _) (nextSeq_toNat S.txseq)

/-- Settles O25, by RESULT and `nak()` as arithmetic. -/
theorem slnakCountsAFailure : Obligations.SlnakCountsAFailure := by
  intro s a b hlen
  exact ⟨hasWord_of_encode 0x53#8 rfl, exec_onSlot hlen rfl (Operands.slotOnly_eq_map a b s)
    fun _ S => done_setSlot_eq (nakResult_toNat _ S S.txseq) (nak_eq ..) ..⟩

/-- Settles O26: the nak of O25 with TXSEQ 0 in the slot and in RESULT. -/
theorem slnakrForcesResync : Obligations.SlnakrForcesResync := by
  intro s a b hlen
  refine ⟨hasWord_of_encode 0x54#8 rfl, exec_onSlot hlen rfl (Operands.slotOnly_eq_map a b s)
    fun _ S => done_setSlot_eq ((nakResult_toNat _ S 0#2).trans rfl) ?_ ..⟩
  rw [nak_eq]
  rfl

/-- Settles O27: the deadline stored is the word completed with. -/
theorem sltklArmsReacquisition : Obligations.SltklArmsReacquisition := by
  intro s a b hlen
  exact ⟨hasWord_of_encode 0x55#8 rfl,
    exec_onSlot hlen rfl (Operands.slotOnly_eq_map a b s) fun _ _ => rfl⟩

/-- Settles O28, by SLQRY's tests on numbers. -/
theorem slqryClassifiesSlot : Obligations.SlqryClassifiesSlot := by
  intro s a b hlen
  refine ⟨hasWord_of_encode 0x56#8 rfl,
    exec_onSlot hlen rfl (Operands.slotOnly_eq_map a b s) fun _ S => ?_⟩
  rw [id, query_eq]
  rfl

/-- Settles O29, by SLRD's fields as numbers. -/
theorem slrdReadsSlotFields : Obligations.SlrdReadsSlotFields := by
  intro s a b hlen
  refine ⟨hasWord_of_encode 0x57#8 rfl,
    exec_onSlot hlen rfl (Operands.slotPair_eq a b s) fun hb S => ?_⟩
  exact (done_eq_ends ..).trans (congrArg (ends .ok · s) (field_toNat _ S hb))

end Sys2Proof.Machine
end

section
/-! The link and the hard I/O error (45_link_and_access.md): NOP, LINKOPEN, LINKCLOSE, and what
LINE-FAULT's turn does to the link and to the command it ends. -/

namespace Sys2Proof.Machine

open Sys2Proof.Certificates

/-! ### The commands (R341 to R343) -/

theorem execNop_eq (a : BitVec 8) (b : BitVec 16) (s : State) : execNop a b s =
    .next (if a = 0 ∧ b = 0 then ends .ok 0 s else badArg s) := by
  rw [execNop, Operands.empty_eq, withOperands_ite]
  rfl

theorem execLinkopen_eq (a : BitVec 8) (b : BitVec 16) (s : State) : execLinkopen a b s =
    .next (if a = 0 ∧ b = 0 then
      (if s.linkOpen = true then ends .badState 0 s
        else ends .ok 0 { s with linkOpen := true, rxfifo := [], txvalid := false, rxvalid := false })
      else badArg s) := by
  rw [execLinkopen, Operands.empty_eq, withOperands_ite]
  rfl

theorem execLinkclose_eq (a : BitVec 8) (b : BitVec 16) (s : State) : execLinkclose a b s =
    .next (if a = 0 ∧ b = 0 then ends .ok 0 { s with linkOpen := false, rxfifo := [] }
      else badArg s) := by
  rw [execLinkclose, Operands.empty_eq, withOperands_ite]
  rfl

/-! ### The hard I/O error (R349) -/

/-- The state a hard I/O error on an open link leaves before it ends the command in progress. -/
def State.disconnected (s : State) : State :=
  { s with linkOpen := false, linkerr := true, rxfifo := [] }

/-- LINE-FAULT has no step on a closed link; its turn does nothing (log 3). -/
theorem lineFault_closed {s : State} (ho : s.linkOpen = false) : lineFault s = s :=
  if_neg (ne_true_of_eq_false ho)

theorem lineFault_idle {s : State} (ho : s.linkOpen = true) (hb : s.busy = false) :
    lineFault s = s.disconnected :=
  (if_pos ho).trans (if_neg (ne_true_of_eq_false hb))

theorem lineFault_busy {s : State} (ho : s.linkOpen = true) (hb : s.busy = true) :
    lineFault s = (s.disconnected.stampIf s.ph.receiving).raise .ioErr s.faultValue :=
  (if_pos ho).trans (if_pos hb)

/-- Completing with a code and a word. -/
theorem raise_eq_ends (c : ResultCode) (v : Word) (s : State) : s.raise c v = ends c v.toNat s := by
  rw [ends, BitVec.ofNat_toNat, BitVec.setWidth_eq]
  rfl

/-- How a hard I/O error ends the command in progress, by the phase it strikes in: a transmission with
the bytes emitted, an IDLEWAIT with the bytes discarded, an RDFRAME with the receive time. -/
theorem lineFault_command {s : State} (ho : s.linkOpen = true) (hb : s.busy = true)
    (hp : s.ph ≠ .idle) : lineFault s =
      if s.ph = .txWait ∨ s.ph = .txShift then ends .ioErr s.txpos s.disconnected
      else if s.ph = .idleWt then ends .ioErr s.disc.toNat s.disconnected
      else ends .ioErr 0 { s.disconnected with rxts := s.now } := by
  rw [lineFault_busy ho hb, State.faultValue]
  cases hph : s.ph with
  | idle => exact absurd hph hp
  | txWait | txShift => rfl
  | idleWt => exact raise_eq_ends .ioErr s.disc s.disconnected
  | rxScan | rxHdr | rxBody | fbBody => rfl

/-! ### The statements -/

/-- Settles O10. -/
theorem nopOnlyCompletes : Obligations.NopOnlyCompletes :=
  ⟨fun _ _ => hasWord_of_encode 0x00#8 rfl, fun s a b => execNop_eq a b s,
    fun _ _ ha hb => step_cmd_busy ha hb⟩

/-- Settles O21. -/
theorem linkOpensAfreshAndCloses : Obligations.LinkOpensAfreshAndCloses :=
  fun s a b => ⟨hasWord_of_encode 0x40#8 rfl, hasWord_of_encode 0x41#8 rfl, execLinkopen_eq a b s,
    execLinkclose_eq a b s⟩

/-- Settles O39: the link is closed, open with no command, or open with a command in its phase. -/
theorem lineFaultClosesAndEndsCommand : Obligations.LineFaultClosesAndEndsCommand := by
  intro s rest ha hidle
  rw [step_agenda ha]
  refine congrArg Host.Outcome.next ?_
  by_cases ho : s.linkOpen = false
  · rw [if_pos ho]
    exact lineFault_closed ho
  · rw [if_neg ho]
    by_cases hb : s.busy = false
    · rw [if_pos hb]
      exact lineFault_idle (eq_true_of_ne_false ho) hb
    · rw [if_neg hb]
      have hbusy : s.busy = true := eq_true_of_ne_false hb
      exact lineFault_command (eq_true_of_ne_false ho) hbusy (hidle.1 hbusy)

end Sys2Proof.Machine
end
